-- ==== Sys2Proof/Word.lean ====
section
/-! DEFINITION. The word types of TED and the four-element records indexed by a tone or a priority. -/

namespace Sys2Proof

/-- One word of the command port (30_encoding.md R120) or one 32-bit register value. -/
abbrev Word := BitVec 32

/-- One sample as the sampler hands it over (20_memory.md R72); it is read as a signed W_SAMPLE-bit number (R73). -/
abbrev Sample := Int

/-- One data byte of a frame (30_encoding.md R104). -/
abbrev Byte := BitVec 8

/-- A tone index, 0 to 3 (00_scope.md R9). -/
abbrev Tone := BitVec 2

/-- A frame data word D, `version..seq` (30_encoding.md R104). -/
abbrev DataWord := BitVec 64

/-- A 96-bit frame F, first transmitted bit at the top (30_encoding.md R103). -/
abbrev FrameBits := BitVec 96

/-- Four like things, one per tone or one per priority. -/
structure Four (α : Type) where
  t0 : α
  t1 : α
  t2 : α
  t3 : α
deriving DecidableEq, Repr

/-- Element `t` of an array indexed 0 to 3. -/
def Four.get {α : Type} (f : Four α) (t : BitVec 2) : α :=
  if t = 0 then f.t0 else if t = 1 then f.t1 else if t = 2 then f.t2 else f.t3

/-- The array with element `t` replaced. -/
def Four.set {α : Type} (f : Four α) (t : BitVec 2) (x : α) : Four α :=
  if t = 0 then { f with t0 := x } else if t = 1 then { f with t1 := x }
  else if t = 2 then { f with t2 := x } else { f with t3 := x }

end Sys2Proof
end

