-- ==== Sys2Proof/Config.lean ====
section
/-! DEFINITION. The configuration record (00_scope.md R10), its reference profile, and the values the
spec leaves open, as constants without a body. -/

namespace Sys2Proof

/-- The tuning parameters of 00_scope.md R10: "a named configuration constant of TED, fixed at build time". `N` and
`TICKS_PER_SEC` are derived from `T_SYM_MS` and `FS_HZ` (Machine/Profile.lean). -/
structure Params where
  tSymMs : Nat
  fsHz : Nat
  toneBin : Four Nat
  /-- `COEFF[t]`, a signed 16-bit number in Q2.14 (41_tone_energy_analyzer.md R151); taken as given. -/
  coeff : Four (BitVec 16)
  /-- W_SAMPLE, the width of a sample, signed; the rules write its REF value 16 (log 2), as they do of the next three. -/
  wSample : Nat
  /-- W_ACC, the width of the Goertzel state, signed. -/
  wAcc : Nat
  /-- W_E, the width of an energy, unsigned. -/
  wE : Nat
  gateNum : Nat
  gateDen : Nat
  confNum : Nat
  confDen : Nat
  eps : Nat
  nfShift : Nat
  nfInit : Nat
  camNum : Nat
  camDen : Nat
  camK : Nat
  syncWord : BitVec 16
  lockMin : Nat
  cooldownTicks : Nat
  csTicks : Nat
  /-- `B_TICKS[p]`, indexed by priority. -/
  bTicks : Four Nat
  retryMin : Nat
  retryMax : Nat
  refreshTicks : Nat
  refreshJitter : Nat
  fsOffset0 : Nat
  fsOffset1 : Nat
  fsOffset2 : Nat
  /-- W_NOW, the width of the tick counter. -/
  wNow : Nat
deriving DecidableEq, Repr

/-- The column REF of 00_scope.md R10. -/
def Config.ref : Params where
  tSymMs := 20
  fsHz := 16000
  toneBin := ⟨60, 80, 100, 120⟩
  coeff := ⟨BitVec.ofInt 16 12540, BitVec.ofInt 16 0, BitVec.ofInt 16 (-12540), BitVec.ofInt 16 (-23170)⟩
  wSample := 16
  wAcc := 48
  wE := 62
  gateNum := 4
  gateDen := 1
  confNum := 2
  confDen := 1
  eps := 1
  nfShift := 4
  nfInit := 1073741824
  camNum := 4
  camDen := 1
  camK := 3
  syncWord := 0xE4B1#16
  lockMin := 16
  cooldownTicks := 10
  csTicks := 5
  bTicks := ⟨100, 60, 30, 10⟩
  retryMin := 1
  retryMax := 10
  refreshTicks := 250
  refreshJitter := 25
  fsOffset0 := 0
  fsOffset1 := 100
  fsOffset2 := 200
  wNow := 32

/-- DESIGN CHOICE (log 14), safe: what `MemRead(WIN, n)` gives where the buffer holds no sample n. The spec says such a
read "never occurs" (20_memory.md R73); no tick makes one. -/
opaque Config.absentSample : Nat → Sample

/-- DESIGN CHOICE (log 15), safe: what `act.timer` holds after a write of a gap that does not fit 16 bits. 00_scope.md R11
(e) does not bound the fast-start gaps from above. -/
opaque Config.oversizeTimer : Nat → BitVec 16

/-- DESIGN CHOICE (log 16), safe: what a response word holds for a configuration constant or a time of 2^32 or more
(10_state.md R51, R52 and 30_encoding.md R123 give each 32 bits). -/
opaque Config.oversizeRegister : Nat → Word

/-- DESIGN CHOICE (log 2), safe: what `an.total` holds where the sum of the energies does not fit its 64 bits. 10_state.md
R23 chose W_E = 62 so that it does; a larger W_E has no rule. -/
opaque Config.oversizeTotal : Nat → BitVec 64

/-- DESIGN CHOICE (log 17), safe: `SYNC_TONE[i]` for i above 7, which 30_encoding.md R107 does not define and
10_state.md R60 (e) rules out. -/
opaque Config.absentSyncTone : Nat → Tone

end Sys2Proof
end

