-- ==== Sys2Proof/Machine/Profile.lean ====
section
/-! DEFINITION. What the rules derive from the configuration record, and the constraints of 00_scope.md R11. -/

namespace Sys2Proof.Machine

/-- `N = FS_HZ × T_SYM_MS / 1000`, samples per window (00_scope.md R10). -/
def windowLen (c : Params) : Nat := c.fsHz * c.tSymMs / 1000

/-- `TICKS_PER_SEC = 1000 / T_SYM_MS` (00_scope.md R10). -/
def ticksPerSec (c : Params) : Nat := 1000 / c.tSymMs

/-- 00_scope.md R11 (b) for one tone: `1 ≤ TONE_BIN[t] ≤ N/2 − 1`. -/
def binOk (c : Params) (b : Nat) : Bool := decide (1 ≤ b ∧ 2 * (b + 1) ≤ windowLen c)

/-- 00_scope.md R11 (a) and (b): the time base and the tones. -/
def timeBaseOk (c : Params) : Bool :=
  decide (1000 % c.tSymMs = 0 ∧ c.fsHz * c.tSymMs % 1000 = 0) &&
  binOk c c.toneBin.t0 && binOk c c.toneBin.t1 && binOk c c.toneBin.t2 && binOk c c.toneBin.t3 &&
  decide (c.toneBin.t0 ≠ c.toneBin.t1 ∧ c.toneBin.t0 ≠ c.toneBin.t2 ∧ c.toneBin.t0 ≠ c.toneBin.t3 ∧
    c.toneBin.t1 ≠ c.toneBin.t2 ∧ c.toneBin.t1 ≠ c.toneBin.t3 ∧ c.toneBin.t2 ≠ c.toneBin.t3)

/-- 00_scope.md R11 (c) and the receiver's part of (d). -/
def receiverOk (c : Params) : Bool :=
  decide (c.syncWord.extractLsb' 14 2 ≠ 0#2) &&
  decide (1 ≤ c.lockMin ∧ c.lockMin ≤ 20 ∧ 1 ≤ c.camK ∧ c.camK ≤ 255 ∧ c.cooldownTicks ≤ 63)

/-- The scheduler's part of 00_scope.md R11 (d), and (e). -/
def schedulerOk (c : Params) : Bool :=
  decide (1 ≤ c.csTicks ∧ c.csTicks ≤ 65535 ∧ c.bTicks.t0 ≤ 65535 ∧ c.bTicks.t1 ≤ c.bTicks.t0 ∧
    c.bTicks.t2 ≤ c.bTicks.t1 ∧ c.bTicks.t3 ≤ c.bTicks.t2 ∧ c.retryMin ≤ c.retryMax ∧ c.retryMax ≤ 65535) &&
  decide (c.fsOffset0 ≤ 65535 ∧ c.fsOffset0 + 1 ≤ c.fsOffset1 ∧ c.fsOffset1 + 1 ≤ c.fsOffset2 ∧
    1 ≤ c.refreshTicks ∧ c.refreshTicks + c.refreshJitter ≤ 65536)

/-- 00_scope.md R11 (f): the thresholds. -/
def thresholdsOk (c : Params) : Bool :=
  decide (1 ≤ c.gateDen ∧ c.gateDen ≤ 65535 ∧ c.gateNum ≤ 65535 ∧ 1 ≤ c.confDen ∧ c.confDen ≤ 65535 ∧
    c.confNum ≤ 65535 ∧ 1 ≤ c.camDen ∧ c.camDen ≤ 65535 ∧ c.camNum ≤ 65535) &&
  decide (c.eps < 2 ^ 32 ∧ c.nfShift ≤ 16 ∧ c.nfInit < 2 ^ 64)

/-- The constraints a parameter record must meet for the rules to apply (00_scope.md R11). -/
def configOk (c : Params) : Bool :=
  timeBaseOk c && receiverOk c && schedulerOk c && thresholdsOk c

end Sys2Proof.Machine
end

