-- ==== Sys2Proof/Syntax.lean ====
section
/-! DEFINITION. The instructions of TED: one constructor per row of spec/opcode_table.json, and the events the
ports deliver. -/

namespace Sys2Proof

/-- The fields of a frame after its constant sync word (30_encoding.md R102, R103). -/
structure WireFrame where
  version : BitVec 4
  msgType : BitVec 4
  priority : BitVec 2
  flags : BitVec 6
  deviceId : BitVec 24
  reason : BitVec 8
  ttl : BitVec 8
  seq : BitVec 8
  crc16 : BitVec 16
deriving DecidableEq, Repr

/-- What arrives at the block from outside, one at a time (10_state.md R20, R21). -/
inductive PortEvent where
  /-- The reset input `rst` (70_reset_and_hazards.md R350 (a)). -/
  | rst
  /-- One 32-bit word on the command port (30_encoding.md R120). -/
  | word (w : Word)
  /-- The end of a symbol period: `win_ok`, the samples the sampler hands over, and `rnd` (20_memory.md R72,
  30_encoding.md R112). -/
  | tick (winOk : BitVec 1) (win : List Sample) (rnd : Word)
  /-- DESIGN CHOICE (log 10). The end of a symbol period seen at symbol level: the dibit of a valid symbol, and `rnd`. -/
  | symbol (dibit : BitVec 2) (rnd : Word)
  /-- DESIGN CHOICE (log 11). The 96 bits of a frame arriving symbol by symbol, with the `rnd` of each period. -/
  | frame (bits : FrameBits) (rnds : List Word)
deriving DecidableEq, Repr

/-- One constructor per row of spec/opcode_table.json. -/
inductive Instr where
  -- host commands (48_host_commands.md)
  | nop
  | rdreg (addr : BitVec 8)
  | submit (prio : BitVec 2) (d : DataWord)
  | activate (prio : BitVec 2) (d : DataWord)
  | deactivate
  | popf
  | qinh
  | qlast
  | clrf
  | sreset
  | illegal (w : Word)
  -- the periodic event (40_tick.md R140)
  | tickWin (win : List Sample) (rnd : Word)
  | tickMiss (rnd : Word)
  -- wire encodings (30_encoding.md R100, R103)
  | frame (f : WireFrame) (rnds : List Word)
  | tone0 (rnd : Word)
  | tone1 (rnd : Word)
  | tone2 (rnd : Word)
  | tone3 (rnd : Word)
  -- internal operations, no encoding
  | analyze
  | goertzel (t : Tone)
  | decideSym (obs : Bool)
  | monitor
  | rxstep (v : Bool) (t : Tone)
  | rxIdle
  | rxSync (v : Bool) (t : Tone)
  | rxPayload (v : Bool) (t : Tone)
  | rxCheck (b : BitVec 80)
  | rxCooldown
  | emit (d : DataWord)
  | crc16 (bytes : List Byte)
  | ledger (deviceId : BitVec 24) (reason : BitVec 8) (ttl : BitVec 8)
  | nfupdate
  | actstep (rj : BitVec 16)
  | enqueue (d : DataWord) (prio : BitVec 2)
  | schstep (rs : BitVec 16)
  | schWait (rs : BitVec 16)
  | schBackoff
  | schAbort (rs : BitVec 16)
  | schHandoff
  | schRetry
  | encodeFrame (d : DataWord)
  | txstep
  | txdone
deriving DecidableEq, Repr

end Sys2Proof
end

