-- ==== Sys2Proof/WellFormed.lean ====
section
/-! DEFINITION. Which terms of `Instr` stand for something the spec can encode or call. -/

namespace Sys2Proof

/-- The legal first words, as mask and match pairs (spec/opcode_table.json; the opcode map of 30_encoding.md R122
with the must-be-zero bits of R120). -/
def legalFirstWords : List (Word × Word) :=
  [(0xFFFFFFFF#32, 0x00000000#32), (0xFFFFFF00#32, 0x10000000#32), (0xFFFFFFFC#32, 0x20000000#32),
   (0xFFFFFFFC#32, 0x21000000#32), (0xFFFFFFFF#32, 0x22000000#32), (0xFFFFFFFF#32, 0x30000000#32),
   (0xFFFFFFFF#32, 0x31000000#32), (0xFFFFFFFF#32, 0x32000000#32), (0xFFFFFFFF#32, 0x33000000#32),
   (0xFFFFFFFF#32, 0x3F000000#32)]

/-- "A first word whose opcode is not in rule R122, or whose must-be-zero bits are not all 0" (30_encoding.md R124). -/
def reservedFirstWord (w : Word) : Bool := legalFirstWords.all fun r => (w &&& r.1) != r.2

/-- An operand pair of the receiver: an invalid symbol has tone 0 (10_state.md R24, R26). -/
def symbolOperandOk (v : Bool) (t : Tone) : Bool := v || t == 0

/-- An instruction term the spec gives: ILLEGAL stands for a reserved first word only, a frame comes with one entropy
word for each of its 48 symbols, and an invalid symbol has tone 0. -/
def WellFormed : Instr → Bool
  | .illegal w => reservedFirstWord w
  | .frame _ rnds => rnds.length == 48
  | .rxstep v t => symbolOperandOk v t
  | .rxSync v t => symbolOperandOk v t
  | .rxPayload v t => symbolOperandOk v t
  | .nop | .rdreg _ | .submit _ _ | .activate _ _ | .deactivate | .popf | .qinh | .qlast | .clrf | .sreset => true
  | .tickWin _ _ | .tickMiss _ | .tone0 _ | .tone1 _ | .tone2 _ | .tone3 _ => true
  | .analyze | .goertzel _ | .decideSym _ | .monitor | .rxIdle | .rxCheck _ | .rxCooldown | .emit _ | .crc16 _ => true
  | .ledger _ _ _ | .nfupdate | .actstep _ | .enqueue _ _ | .schstep _ | .schWait _ | .schBackoff | .schAbort _ => true
  | .schHandoff | .schRetry | .encodeFrame _ | .txstep | .txdone => true

end Sys2Proof
end

