-- ==== Sys2Proof/Decode.lean ====
section
/-! DEFINITION. From port events to instructions and back: the Gray code, the frame layout, the command words. -/

namespace Sys2Proof

/-- `TONE_OF(b) = b XOR (b >> 1)` (30_encoding.md R100). -/
def toneOf (b : BitVec 2) : Tone := b ^^^ (b >>> 1)

/-- `DIBIT_OF(t) = t XOR (t >> 1)` (30_encoding.md R101). -/
def dibitOf (t : Tone) : BitVec 2 := t ^^^ (t >>> 1)

/-! ### Command words -/

/-- `op = w0[31:24]` (48_host_commands.md R291). -/
def opcodeOf (w : Word) : BitVec 8 := w.extractLsb' 24 8

/-- The first word of SUBMIT or ACTIVATE: opcode 0x20 or 0x21 with bits 23:2 clear (R291); two payload words follow. -/
def takesPayload (w : Word) : Bool :=
  (opcodeOf w == 0x20#8 || opcodeOf w == 0x21#8) && w.extractLsb' 2 22 == 0#22

/-- A command of format H0 (30_encoding.md R120): bits 23:0 must be 0. -/
def formatH0 (w : Word) (i : Instr) : Instr := if w.extractLsb' 0 24 = 0#24 then i else .illegal w

/-- A first word that no payload follows (R291, R301). -/
def decodeShort (w : Word) : Instr :=
  if opcodeOf w = 0x00#8 then formatH0 w .nop
  else if opcodeOf w = 0x10#8 then
    if w.extractLsb' 8 16 = 0#16 then .rdreg (w.extractLsb' 0 8) else .illegal w
  else if opcodeOf w = 0x22#8 then formatH0 w .deactivate
  else if opcodeOf w = 0x30#8 then formatH0 w .popf
  else if opcodeOf w = 0x31#8 then formatH0 w .qinh
  else if opcodeOf w = 0x32#8 then formatH0 w .qlast
  else if opcodeOf w = 0x33#8 then formatH0 w .clrf
  else if opcodeOf w = 0x3F#8 then formatH0 w .sreset
  else .illegal w

/-- SUBMIT or ACTIVATE with its payload, `D = w1 ‖ w2` (R291, 30_encoding.md R121). -/
def decodeLong (w0 w1 w2 : Word) : Instr :=
  if opcodeOf w0 = 0x20#8 then .submit (w0.extractLsb' 0 2) (w1 ++ w2)
  else .activate (w0.extractLsb' 0 2) (w1 ++ w2)

/-- What an arriving event amounts to. The reset input is no instruction; `unframed` is the rejection, by name, of
96 bits that do not begin with SYNC_WORD. -/
inductive Decoded where
  /-- An instruction, and the command words still held afterwards. -/
  | instr (i : Instr) (pend : List Word)
  /-- A command whose payload has not all arrived (48_host_commands.md R290). -/
  | more (pend : List Word)
  | reset
  | unframed (bits : FrameBits) (rnds : List Word)
deriving DecidableEq, Repr

/-- The words of the command port received so far, the newest last (R290, R291). -/
def decodeWords : List Word → Decoded
  | [] => .more []
  | w0 :: ws =>
    if takesPayload w0 then
      match ws with
      | w1 :: w2 :: _ => .instr (decodeLong w0 w1 w2) []
      | _ => .more (w0 :: ws)
    else .instr (decodeShort w0) []

/-! ### Ticks and symbols -/

/-- `win_ok` selects the form (30_encoding.md R112); the samples of a missed window are not looked at
(93_implementation_defined.md U12). -/
def decodeTick (winOk : BitVec 1) (win : List Sample) (rnd : Word) : Instr :=
  if winOk = 1#1 then .tickWin win rnd else .tickMiss rnd

/-- The tone of a dibit: the rows TONE0 to TONE3 (30_encoding.md R100). -/
def decodeDibit (dibit : BitVec 2) (rnd : Word) : Instr :=
  if toneOf dibit = 0#2 then .tone0 rnd
  else if toneOf dibit = 1#2 then .tone1 rnd
  else if toneOf dibit = 2#2 then .tone2 rnd
  else .tone3 rnd

/-! ### Frames -/

/-- The fields of a frame at the bit positions of 30_encoding.md R103. -/
def wireFields (bits : FrameBits) : WireFrame where
  version := bits.extractLsb' 76 4
  msgType := bits.extractLsb' 72 4
  priority := bits.extractLsb' 70 2
  flags := bits.extractLsb' 64 6
  deviceId := bits.extractLsb' 40 24
  reason := bits.extractLsb' 32 8
  ttl := bits.extractLsb' 24 8
  seq := bits.extractLsb' 16 8
  crc16 := bits.extractLsb' 0 16

/-- The 96 bits of a frame (30_encoding.md R102, R103), `sync` the constant SYNC_WORD. -/
def wireBits (sync : BitVec 16) (f : WireFrame) : FrameBits :=
  sync ++ f.version ++ f.msgType ++ f.priority ++ f.flags ++ f.deviceId ++ f.reason ++ f.ttl ++ f.seq ++ f.crc16

/-! ### Events -/

/-- The decoder: total on every event, with the command words held so far. -/
def decodeEvent (sync : BitVec 16) (pend : List Word) : PortEvent → Decoded
  | .rst => .reset
  | .word w => decodeWords (pend ++ [w])
  | .tick winOk win rnd => .instr (decodeTick winOk win rnd) pend
  | .symbol dibit rnd => .instr (decodeDibit dibit rnd) pend
  | .frame bits rnds =>
    if bits.extractLsb' 80 16 = sync then .instr (.frame (wireFields bits) rnds) pend else .unframed bits rnds

/-- The first instruction of a stream of events, and the rest of the stream. -/
def decodeStream (sync : BitVec 16) : List Word → List PortEvent → Option (Instr × List PortEvent)
  | _, [] => none
  | pend, e :: es =>
    match decodeEvent sync pend e with
    | .instr i _ => some (i, es)
    | .more p => decodeStream sync p es
    | .reset => none
    | .unframed _ _ => none

/-! ### The encoder -/

/-- The words of a host command (30_encoding.md R120 to R122). -/
def encodeWords : Instr → Option (List Word)
  | .nop => some [0x00000000#32]
  | .rdreg addr => some [0x100000#24 ++ addr]
  | .submit prio d => some [0x08000000#30 ++ prio, d.extractLsb' 32 32, d.extractLsb' 0 32]
  | .activate prio d => some [0x08400000#30 ++ prio, d.extractLsb' 32 32, d.extractLsb' 0 32]
  | .deactivate => some [0x22000000#32]
  | .popf => some [0x30000000#32]
  | .qinh => some [0x31000000#32]
  | .qlast => some [0x32000000#32]
  | .clrf => some [0x33000000#32]
  | .sreset => some [0x3F000000#32]
  | .illegal w => some [w]
  | .tickWin _ _ | .tickMiss _ | .frame _ _ | .tone0 _ | .tone1 _ | .tone2 _ | .tone3 _ => none
  | .analyze | .goertzel _ | .decideSym _ | .monitor | .rxstep _ _ | .rxIdle | .rxSync _ _ | .rxPayload _ _ => none
  | .rxCheck _ | .rxCooldown | .emit _ | .crc16 _ | .ledger _ _ _ | .nfupdate | .actstep _ | .enqueue _ _ => none
  | .schstep _ | .schWait _ | .schBackoff | .schAbort _ | .schHandoff | .schRetry | .encodeFrame _ => none
  | .txstep | .txdone => none

/-- The port events of an instruction; an internal operation has none ("encoding": "none" in spec/opcode_table.json). -/
def encode (sync : BitVec 16) (i : Instr) : Option (List PortEvent) :=
  match i with
  | .tickWin win rnd => some [.tick 1#1 win rnd]
  | .tickMiss rnd => some [.tick 0#1 [] rnd]
  | .frame f rnds => some [.frame (wireBits sync f) rnds]
  | .tone0 rnd => some [.symbol 0b00#2 rnd]
  | .tone1 rnd => some [.symbol 0b01#2 rnd]
  | .tone2 rnd => some [.symbol 0b11#2 rnd]
  | .tone3 rnd => some [.symbol 0b10#2 rnd]
  | i => (encodeWords i).map fun ws => ws.map .word

/-! ### Words of the opcode table -/

/-- Bits `32 k + 31` to `32 k` of a table word, as a word of the command port. -/
def tableWord (w k : Nat) : Word := BitVec.ofNat 32 (w >>> (32 * k))

/-- How the bits of an opcode-table row reach the block (log 19): 96 bits that begin with SYNC_WORD are a frame, other
rows of more than 8 bits are command words, the values 2 and 3 of a row of at most 8 bits are the dibits of TONE3
and TONE2, and every other one is a tick's event code, its window all zeros. -/
def tableEvents (c : Params) (nbits w : Nat) : List PortEvent :=
  if nbits = 2 then [.symbol (BitVec.ofNat 2 w) 0]
  else if nbits ≤ 8 then
    if w = 2 ∨ w = 3 then [.symbol (BitVec.ofNat 2 w) 0]
    else [.tick (BitVec.ofNat 1 w) (List.replicate (Machine.windowLen c) 0) 0]
  else if nbits = 96 ∧ (BitVec.ofNat 96 w).extractLsb' 80 16 = c.syncWord then
    [.frame (BitVec.ofNat 96 w) (List.replicate 48 0)]
  else [.word (tableWord w 0), .word (tableWord w 1), .word (tableWord w 2)]

/-- The instruction the decoder reads from the bits of an opcode-table row. -/
def decodeTableWord (nbits w : Nat) : Option Instr :=
  (decodeStream Config.ref.syncWord [] (tableEvents Config.ref nbits w)).map Prod.fst

end Sys2Proof
end

