-- ==== Sys2Proof/Machine/State.lean ====
section
/-! DEFINITION. The state of TED (spec/10_state.md), as plain data, and the reset state (70_reset_and_hazards.md R351). -/

namespace Sys2Proof.Machine

/-- One symbol decision `{v, t}` (10_state.md R24, R26). -/
structure Symbol where
  valid : Bool
  tone : Tone
deriving DecidableEq, Repr

/-- `an.*`: the Goertzel working registers, W_ACC bits signed, and the energies, W_E bits unsigned (10_state.md R22, R23),
as the numbers they hold: their widths are parameters (log 2). -/
structure Analyzer where
  s1 : Four Int
  s2 : Four Int
  energy : Four Nat
  total : BitVec 64
deriving DecidableEq, Repr

/-- `cam.*`: the debounced busy flag and its counter (10_state.md R38). -/
structure Activity where
  busy : Bool
  cnt : BitVec 8
deriving DecidableEq, Repr

/-- `rx.state` (10_state.md R31). -/
inductive RxState where
  | idle
  | sync
  | payload
  | cooldown
deriving DecidableEq, Repr

/-- `rx.*` (10_state.md R26, R27, R31 to R33). `hist[0]` is the oldest symbol, `hist[19]` the newest. -/
structure Receiver where
  state : RxState
  cnt : BitVec 6
  score : BitVec 5
  hist : Vector Symbol 20
  bits : BitVec 80
deriving DecidableEq, Repr

/-- `out.*`: the DecodedFrame register and its valid flag (10_state.md R39, R42). -/
structure OutputRecord where
  valid : Bool
  deviceId : BitVec 24
  reason : BitVec 8
  priority : BitVec 2
  ttl : BitVec 8
  seq : BitVec 8
deriving DecidableEq, Repr

/-- `led.*`: the InhibitionRecord (10_state.md R43). `inhibitUntil` and `lastSeen` are each "a value of `now`". -/
structure Ledger where
  valid : Bool
  inhibitUntil : Nat
  lastInhibitor : BitVec 24
  lastReason : BitVec 8
  lastSeen : Nat
deriving DecidableEq, Repr

/-- `slot.*`: the pending request (10_state.md R44). -/
structure Slot where
  valid : Bool
  prio : BitVec 2
  data : DataWord
deriving DecidableEq, Repr

/-- `sch.state` (10_state.md R35); the values 5 to 7 "are never produced". -/
inductive SchState where
  | none
  | wait
  | backoff
  | retry
  | tx
deriving DecidableEq, Repr

/-- `sch.*` (10_state.md R35, R36, R45). -/
structure Scheduler where
  state : SchState
  cnt : BitVec 16
  starve : BitVec 16
deriving DecidableEq, Repr

/-- `act.*` (10_state.md R37). -/
structure Activation where
  active : Bool
  prio : BitVec 2
  tmpl : DataWord
  gen : BitVec 2
  timer : BitVec 16
deriving DecidableEq, Repr

/-- `tx.*`: the transmitter and its tone output port (10_state.md R28, R34, R41). -/
structure Transmitter where
  active : Bool
  idx : BitVec 7
  frame : FrameBits
  en : Bool
  tone : Tone
deriving DecidableEq, Repr

/-- `st.*`: the sticky flags (10_state.md R40). -/
structure StickyFlags where
  overrun : Bool
  cmdErr : Bool
deriving DecidableEq, Repr

/-- The events of 60_exceptions.md R331. None transfers control (R320). -/
inductive Event where
  | gap
  | reject
  | syncAbort
  | torn
  | crc
  | starve
  | overrun
  | cmd
  | lock
  | frame
  | txStart
  | txDone
  | gen
  | reset
deriving DecidableEq, Repr

/-- The state of TED. -/
structure State where
  /-- The configuration record: a constant (10_state.md R21), carried here so that statements range over it (log 1). -/
  cfg : Params
  /-- `now`, a number of W_NOW bits (10_state.md R30, log 2). -/
  now : Nat
  /-- `an.*`. -/
  an : Analyzer
  /-- `sd.valid`, `sd.tone`. -/
  sd : Symbol
  /-- `nf.acc`, of 64 + NF_SHIFT bits (10_state.md R25). -/
  nfAcc : BitVec 80
  /-- `cam.*`. -/
  cam : Activity
  /-- `rx.*`. -/
  rx : Receiver
  /-- `out.*`. -/
  out : OutputRecord
  /-- `led.*`. -/
  led : Ledger
  /-- `slot.*`. -/
  slot : Slot
  /-- `sch.*`. -/
  sch : Scheduler
  /-- `act.*`. -/
  act : Activation
  /-- `tx.*`. -/
  tx : Transmitter
  /-- `st.*`. -/
  st : StickyFlags
  /-- The window buffer (10_state.md R53), sample 0 first (log 14). -/
  win : List Sample
  /-- The words of an unfinished three-word command (48_host_commands.md R290, log 5). -/
  pend : List Word
  /-- The port events still to come, the next one first (log 3). -/
  input : List PortEvent
  /-- The response words of the last step, word 0 first (30_encoding.md R123, log 6). -/
  resp : List Word
  /-- The event trace of the last step, with the value of `now` (60_exceptions.md R320, log 7). -/
  events : List (Nat × Event)
  /-- The value returned by GOERTZEL, CRC16 or ENCODE when run on its own (log 8). -/
  ret : Nat
deriving DecidableEq, Repr

/-- "No behaviour of TED is `fault` or `stuck`: the block has no trap and every step is total"
(93_implementation_defined.md, end of part 1): there is no constructor. -/
inductive Fault where
deriving DecidableEq, Repr

/-- Where the step has no next state. -/
inductive Refusal where
  /-- Raised by no arm: every instruction has its meaning. Safe. -/
  | notModelled (mnemonic : String)
  /-- `now` would reach 2^W_NOW; raised by every tick form. "The behaviour from the first such tick is unspecified … a
  model refuses traces that long" (70_reset_and_hazards.md R369, 93_implementation_defined.md U1). Safe (log 12). -/
  | clockOverflow
  /-- `now + ttl × TICKS_PER_SEC` would reach 2^W_NOW; raised by LEDGER and by whatever calls it. "If `until` ≥ 2^32 the
  behaviour is unspecified" (45_inhibition_ledger.md R231, U1). Safe (log 12). -/
  | ledgerOverflow
  /-- The configuration record breaks 00_scope.md R11 ("a model refuses a record that breaks one"); raised by the
  step. Safe (log 13). -/
  | badConfig
deriving DecidableEq, Repr

/-- What an instruction answers. -/
abbrev Result := Host.Outcome State Fault Refusal

/-- Every register at the reset value of 70_reset_and_hazards.md R351, for the record `c`. -/
def resetState (c : Params) : State where
  cfg := c
  now := 0
  an := ⟨⟨0, 0, 0, 0⟩, ⟨0, 0, 0, 0⟩, ⟨0, 0, 0, 0⟩, 0⟩
  sd := ⟨false, 0⟩
  nfAcc := BitVec.ofNat 80 (c.nfInit * 2 ^ c.nfShift)
  cam := ⟨false, 0⟩
  rx := ⟨.idle, 0, 0, Vector.replicate 20 ⟨false, 0⟩, 0⟩
  out := ⟨false, 0, 0, 0, 0, 0⟩
  led := ⟨false, 0, 0, 0, 0⟩
  slot := ⟨false, 0, 0⟩
  sch := ⟨.none, 0, 0⟩
  act := ⟨false, 0, 0, 0, 0⟩
  tx := ⟨false, 0, 0, false, 0⟩
  st := ⟨false, false⟩
  win := []
  pend := []
  input := []
  resp := []
  events := []
  ret := 0

/-- The machine right after reset (70_reset_and_hazards.md R351), with the record REF (log 1). -/
def State.reset : State := resetState Config.ref

end Sys2Proof.Machine
end

