-- ==== Sys2Proof/Machine/Ops.lean ====
section
/-! DEFINITION. The shared operations: raising an event, answering the host, the width operators, reading the window,
drawing, the clock, reset. -/

namespace Sys2Proof.Machine

/-- Go on with `f` from the next state; a stop stays a stop. -/
def andThen (r : Result) (f : State → Result) : Result :=
  match r with
  | .next s => f s
  | .fault x => .fault x
  | .refused x => .refused x

/-- `raise E_x` (00_scope.md R13, 60_exceptions.md R320): TED's one exception mechanism. Nothing is saved, no mode
changes and control goes nowhere (R334); the event is recorded with the value of `now`. There is no return (R335). -/
def raise (e : Event) (s : State) : State := { s with events := s.events ++ [(s.now, e)] }

/-- The response words of a command, word 0 first (20_memory.md R77, 30_encoding.md R123). -/
def respond (ws : List Word) (s : State) : State := { s with resp := s.resp ++ ws }

/-- `wrap_W(v)` (00_scope.md R12): the signed W-bit value congruent to v modulo 2^W. -/
def wrapSigned (w : Nat) (v : Int) : Int := v.bmod (2 ^ w)

/-- `sext_W(v)` (R12): the low W bits of v as a signed number. -/
def signExtended (w : Nat) (v : Int) : Int := v.bmod (2 ^ w)

/-- `sat_W(v) = min(max(v, 0), 2^W − 1)` (R12). -/
def saturated (w : Nat) (v : Int) : Nat := min v.toNat (2 ^ w - 1)

/-- `MemRead(WIN, n)` (20_memory.md R73). -/
def memRead (s : State) (n : Nat) : Int := signExtended s.cfg.wSample (s.win[n]?.getD (Config.absentSample n))

/-- What the buffer holds for `count` samples from `n` on, in order; `buffer` holds what the window has from `n` on. -/
def readFrom : (count : Nat) → (n : Nat) → (buffer : List Sample) → List Sample
  | 0, _, _ => []
  | k + 1, n, [] => Config.absentSample n :: readFrom k (n + 1) []
  | k + 1, n, x :: xs => x :: readFrom k (n + 1) xs

/-- The N samples the analyzer reads, in order (41_tone_energy_analyzer.md R152). -/
def windowSamples (s : State) : List Int :=
  (readFrom (windowLen s.cfg) 0 s.win).map (signExtended s.cfg.wSample)

/-- `draw(r, lo, hi) = lo + (r mod (hi − lo + 1))` (47_transmit_scheduler.md R258). -/
def draw (r : BitVec 16) (lo hi : Nat) : Nat := lo + r.toNat % (hi - lo + 1)

/-- R_S = `rnd[15:0]` (30_encoding.md R112). -/
def entropyS (rnd : Word) : BitVec 16 := rnd.extractLsb' 0 16

/-- R_J = `rnd[31:16]` (30_encoding.md R112). -/
def entropyJ (rnd : Word) : BitVec 16 := rnd.extractLsb' 16 16

/-- Step 0 of TICK: `now <- now + 1` (40_tick.md R140), refused where `now` would reach 2^W_NOW
(93_implementation_defined.md U1, log 12). -/
def advanceClock (s : State) : Result :=
  if s.now + 1 < 2 ^ s.cfg.wNow then .next { s with now := s.now + 1 } else .refused .clockOverflow

/-- The effect of reset (70_reset_and_hazards.md R351): every register takes its reset value. The configuration record
is not affected; the window and the events still to come belong to the agents outside (log 18). -/
def resetRegisters (s : State) : State :=
  { resetState s.cfg with win := s.win, input := s.input, resp := s.resp, events := s.events, ret := s.ret }

/-- Reset by `rst` or SRESET (R350: "Both have exactly the same effect"); raises E_RESET. -/
def resetMachine (s : State) : State := raise .reset (resetRegisters s)

/-- Before a step the response and the trace of the one before are gone (logs 6, 7). -/
def clearOutputs (s : State) : State := { s with resp := [], events := [] }

/-- Place the bits of an opcode-table row where the next step fetches, so that this step runs the whole instruction: a
command that takes a payload has its first two words held already (48_host_commands.md R290). -/
def placeEvents (evs : List PortEvent) (s : State) : State :=
  match evs with
  | .word w0 :: .word w1 :: .word w2 :: _ =>
    if takesPayload w0 then { s with pend := [w0, w1], input := .word w2 :: s.input }
    else { s with pend := [], input := .word w0 :: s.input }
  | e :: _ => { s with input := e :: s.input }
  | [] => s

end Sys2Proof.Machine
end

