-- ==== Sys2Proof/Machine/Flags.lean ====
section
/-! DEFINITION. The tests and flags computed from the state: the noise floor, the decision tests, the busy test, the
level outputs, the STATUS register. -/

namespace Sys2Proof.Machine

/-- `noiseFloor = nf.acc >> NF_SHIFT` (10_state.md R25). -/
def noiseFloor (s : State) : Nat := s.nfAcc.toNat >>> s.cfg.nfShift

/-- The energy of tone `t`. -/
def energyOf (s : State) (t : Tone) : Nat := s.an.energy.get t

/-- `ARGMAX`: the smallest tone whose energy is at least every other (42_symbol_decider_monitor.md R166). -/
def argmax (s : State) : Tone :=
  let e0 := energyOf s 0
  let e1 := energyOf s 1
  let e2 := energyOf s 2
  let e3 := energyOf s 3
  if e0 ≥ e1 ∧ e0 ≥ e2 ∧ e0 ≥ e3 then 0
  else if e1 ≥ e2 ∧ e1 ≥ e3 then 1
  else if e2 ≥ e3 then 2
  else 3

/-- The energy of tone `u`, left out (0) where `u` is the winner `m`. -/
def energyBeside (s : State) (m u : Tone) : Nat := if u = m then 0 else energyOf s u

/-- `SECOND`: the largest of the three energies other than that of `m` (R167). -/
def secondEnergy (s : State) (m : Tone) : Nat :=
  max (max (energyBeside s m 0) (energyBeside s m 1)) (max (energyBeside s m 2) (energyBeside s m 3))

/-- `gate_ok` (R168). -/
def gateOk (s : State) : Bool :=
  decide (energyOf s (argmax s) * s.cfg.gateDen ≥ noiseFloor s * s.cfg.gateNum)

/-- `conf_ok` (R168). -/
def confOk (s : State) : Bool :=
  decide (energyOf s (argmax s) * s.cfg.confDen ≥ s.cfg.confNum * (secondEnergy s (argmax s) + s.cfg.eps))

/-- `above`, strictly (R176). -/
def aboveThreshold (s : State) : Bool :=
  decide (s.an.total.toNat * s.cfg.camDen > noiseFloor s * s.cfg.camNum)

/-- `IS_INHIBITED` (45_inhibition_ledger.md R232). -/
def isInhibited (s : State) : Bool := decide (s.now < s.led.inhibitUntil)

/-! ### Level outputs (10_state.md R41) -/

def levelBusy (s : State) : Bool := s.cam.busy

def levelFrameAvail (s : State) : Bool := s.out.valid

def levelInhibited (s : State) : Bool := isInhibited s

def levelTxEn (s : State) : Bool := s.tx.en

def levelTxTone (s : State) : Tone := s.tx.tone

/-! ### Encodings of the sequencing registers and the STATUS word -/

/-- The encoding of `rx.state` (10_state.md R31). -/
def rxCode : RxState → BitVec 2
  | .idle => 0
  | .sync => 1
  | .payload => 2
  | .cooldown => 3

/-- The encoding of `sch.state` (10_state.md R35). -/
def schCode : SchState → BitVec 3
  | .none => 0
  | .wait => 1
  | .backoff => 2
  | .retry => 3
  | .tx => 4

/-- One bit of a register. -/
def bit (b : Bool) : BitVec 1 := BitVec.ofBool b

/-- STATUS, register 0x01 (10_state.md R51), bit 19 first. -/
def statusWord (s : State) : Word :=
  0#12 ++ s.tx.tone ++ bit s.tx.en ++ bit s.led.valid ++ s.sd.tone ++ bit s.sd.valid ++ schCode s.sch.state ++
    rxCode s.rx.state ++ bit s.slot.valid ++ bit s.act.active ++ bit (isInhibited s) ++ bit s.tx.active ++
    bit s.st.cmdErr ++ bit s.st.overrun ++ bit s.out.valid ++ bit s.cam.busy

/-- The code of an event (60_exceptions.md R331). -/
def eventCode : Event → Nat
  | .gap => 1
  | .reject => 2
  | .syncAbort => 3
  | .torn => 4
  | .crc => 5
  | .starve => 6
  | .overrun => 7
  | .cmd => 8
  | .lock => 16
  | .frame => 17
  | .txStart => 18
  | .txDone => 19
  | .gen => 20
  | .reset => 21

end Sys2Proof.Machine
end

