-- ==== Sys2Proof/Machine/Operands.lean ====
section
/-! DEFINITION. The operand forms: the fields of a data word, the symbols of a frame, the register map of RDREG. -/

namespace Sys2Proof.Machine

/-! ### The data word D (30_encoding.md R104) -/

def dataDeviceId (d : DataWord) : BitVec 24 := d.extractLsb' 24 24

def dataReason (d : DataWord) : BitVec 8 := d.extractLsb' 16 8

def dataPriority (d : DataWord) : BitVec 2 := d.extractLsb' 54 2

def dataTtl (d : DataWord) : BitVec 8 := d.extractLsb' 8 8

def dataSeq (d : DataWord) : BitVec 8 := d.extractLsb' 0 8

/-- The data bytes `DB[i] = D[63 − 8i : 56 − 8i]` (R104). -/
def dataBytes (d : DataWord) : List Byte :=
  [d.extractLsb' 56 8, d.extractLsb' 48 8, d.extractLsb' 40 8, d.extractLsb' 32 8,
   d.extractLsb' 24 8, d.extractLsb' 16 8, d.extractLsb' 8 8, d.extractLsb' 0 8]

/-! ### Symbols -/

/-- The tone of frame symbol `j`, dibit `F[95 − 2j : 94 − 2j]` (30_encoding.md R103). -/
def frameSymbol (f : FrameBits) (j : Nat) : Tone := toneOf (f.extractLsb' (94 - 2 * j) 2)

/-- `TXSYM(F, i)`: the preamble is tone `i mod 4`, the frame follows (30_encoding.md R105, R106). -/
def txSym (f : FrameBits) (i : Nat) : Tone :=
  if i < 20 then BitVec.ofNat 2 (i % 4) else frameSymbol f (i - 20)

/-- The 48 symbols of a frame, in order. -/
def frameSymbols (f : FrameBits) : List Tone := (List.range 48).map (frameSymbol f)

/-- `SYNC_TONE[i] = TONE_OF(SYNC_WORD[15 − 2i : 14 − 2i])` for i in 0..7 (30_encoding.md R107); a free value
beyond (log 17). -/
def syncTone (c : Params) (i : Nat) : Tone :=
  if i < 8 then toneOf (c.syncWord.extractLsb' (14 - 2 * i) 2) else Config.absentSyncTone i

/-! ### The register map (10_state.md R51, R52) -/

/-- A configuration constant or a time zero-extended to 32 bits (R51, R52); a free value where it does not fit (log 16). -/
def registerWord (v : Nat) : Word := if v < 2 ^ 32 then BitVec.ofNat 32 v else Config.oversizeRegister v

/-- Two 16-bit halves. -/
def halves (hi lo : Nat) : Word := BitVec.ofNat 16 hi ++ BitVec.ofNat 16 lo

/-- Bits 31:0 and 63:32 of a number. -/
def lowWord (v : Nat) : Word := BitVec.ofNat 32 v

def highWord (v : Nat) : Word := BitVec.ofNat 32 (v >>> 32)

/-- Bits 61:32 of an energy (R51: "in bits 29:0"). -/
def energyHigh (v : Nat) : Word := BitVec.ofNat 32 ((v >>> 32) % 2 ^ 30)

/-- RXSTAT, register 0x0F. -/
def rxStat (s : State) : Word := 0#11 ++ s.rx.score ++ 0#2 ++ s.rx.cnt ++ 0#6 ++ rxCode s.rx.state

/-- SCHSTAT, register 0x10. -/
def schStat (s : State) : Word :=
  0#8 ++ s.sch.cnt ++ 0#2 ++ s.slot.prio ++ bit s.slot.valid ++ schCode s.sch.state

/-- ACTSTAT, register 0x12. -/
def actStat (s : State) : Word := s.act.timer ++ 0#11 ++ s.act.gen ++ s.act.prio ++ bit s.act.active

/-- LAST_ID, register 0x14; also word 0 of QLAST (30_encoding.md R123). -/
def lastIdWord (s : State) : Word := bit s.led.valid ++ 0#7 ++ s.led.lastInhibitor

/-- CAMSTAT, register 0x17. -/
def camStat (s : State) : Word := 0#16 ++ s.cam.cnt ++ 0#7 ++ bit s.cam.busy

/-- The status registers, 0x00 to 0x17 (R51). -/
def statusReg (s : State) (addr : Nat) : Option Word :=
  match addr with
  | 0x00 => some 0x54454431#32
  | 0x01 => some (statusWord s)
  | 0x02 => some (registerWord s.now)
  | 0x03 => some (lowWord (noiseFloor s))
  | 0x04 => some (highWord (noiseFloor s))
  | 0x05 => some (lowWord s.an.energy.t0)
  | 0x06 => some (energyHigh s.an.energy.t0)
  | 0x07 => some (lowWord s.an.energy.t1)
  | 0x08 => some (energyHigh s.an.energy.t1)
  | 0x09 => some (lowWord s.an.energy.t2)
  | 0x0A => some (energyHigh s.an.energy.t2)
  | 0x0B => some (lowWord s.an.energy.t3)
  | 0x0C => some (energyHigh s.an.energy.t3)
  | 0x0D => some (lowWord s.an.total.toNat)
  | 0x0E => some (highWord s.an.total.toNat)
  | 0x0F => some (rxStat s)
  | 0x10 => some (schStat s)
  | 0x11 => some (s.sch.starve.zeroExtend 32)
  | 0x12 => some (actStat s)
  | 0x13 => some (registerWord s.led.inhibitUntil)
  | 0x14 => some (lastIdWord s)
  | 0x15 => some (s.led.lastReason.zeroExtend 32)
  | 0x16 => some (registerWord s.led.lastSeen)
  | 0x17 => some (camStat s)
  | _ => none

/-- The configuration registers, 0x40 to 0x5F (R52). -/
def configReg (c : Params) (addr : Nat) : Option Word :=
  match addr with
  | 0x40 => some (registerWord (windowLen c))
  | 0x41 => some (registerWord c.toneBin.t0)
  | 0x42 => some (registerWord c.toneBin.t1)
  | 0x43 => some (registerWord c.toneBin.t2)
  | 0x44 => some (registerWord c.toneBin.t3)
  | 0x45 => some (c.coeff.t0.signExtend 32)
  | 0x46 => some (c.coeff.t1.signExtend 32)
  | 0x47 => some (c.coeff.t2.signExtend 32)
  | 0x48 => some (c.coeff.t3.signExtend 32)
  | 0x49 => some (c.syncWord.zeroExtend 32)
  | 0x4A => some (registerWord c.lockMin)
  | 0x4B => some (registerWord c.cooldownTicks)
  | 0x4C => some (halves c.gateNum c.gateDen)
  | 0x4D => some (halves c.confNum c.confDen)
  | 0x4E => some (registerWord c.eps)
  | 0x4F => some (registerWord c.nfShift)
  | 0x50 => some (lowWord c.nfInit)
  | 0x51 => some (highWord c.nfInit)
  | 0x52 => some (halves c.camNum c.camDen)
  | 0x53 => some (registerWord c.camK)
  | 0x54 => some (registerWord c.csTicks)
  | 0x55 => some (registerWord c.bTicks.t0)
  | 0x56 => some (registerWord c.bTicks.t1)
  | 0x57 => some (registerWord c.bTicks.t2)
  | 0x58 => some (registerWord c.bTicks.t3)
  | 0x59 => some (halves c.retryMin c.retryMax)
  | 0x5A => some (registerWord c.refreshTicks)
  | 0x5B => some (registerWord c.refreshJitter)
  | 0x5C => some (registerWord c.fsOffset0)
  | 0x5D => some (registerWord c.fsOffset1)
  | 0x5E => some (registerWord c.fsOffset2)
  | 0x5F => some (registerWord (ticksPerSec c))
  | _ => none

/-- `value(addr)` of RDREG (48_host_commands.md R293), none for an unlisted address. -/
def regValue (s : State) (addr : BitVec 8) : Option Word :=
  (statusReg s addr.toNat).orElse fun _ => configReg s.cfg addr.toNat

end Sys2Proof.Machine
end

