-- ==== Sys2Proof/Machine/Crc.lean ====
section
/-! DEFINITION. The CRC-16/CCITT generator (44_crc16.md). -/

namespace Sys2Proof.Machine

/-- One bit of R220: `fb := bit XOR crc[15]`, shift, and the polynomial 0x1021 where `fb` is 1. -/
def crcBit (crc : BitVec 16) (b : Bool) : BitVec 16 :=
  if b != crc.msb then (crc <<< 1) ^^^ 0x1021#16 else crc <<< 1

/-- The bits of a byte, bit 7 first. -/
def byteBits (b : Byte) : List Bool :=
  [b.getLsbD 7, b.getLsbD 6, b.getLsbD 5, b.getLsbD 4, b.getLsbD 3, b.getLsbD 2, b.getLsbD 1, b.getLsbD 0]

/-- The eight bits of one byte. -/
def crcByte (crc : BitVec 16) (b : Byte) : BitVec 16 := (byteBits b).foldl crcBit crc

/-- `CRC16(B[0..n−1])` from 0xFFFF (R220). -/
def crc16 (bytes : List Byte) : BitVec 16 := bytes.foldl crcByte 0xFFFF#16

/-- `CRC16(DB[0..7] of D)` (R222). -/
def dataCrc (d : DataWord) : BitVec 16 := crc16 (dataBytes d)

/-- CRC16 on its own: a pure function, its result left in `ret` (logs 8, 9). -/
def execCrc16 (bytes : List Byte) (s : State) : Result := .next { s with ret := (crc16 bytes).toNat }

end Sys2Proof.Machine
end

