-- ==== Sys2Proof/Machine/Receiver.lean ====
section
/-! DEFINITION. FrameReceiver and InhibitionLedger (43_frame_receiver.md, 45_inhibition_ledger.md). -/

namespace Sys2Proof.Machine

/-! ### InhibitionLedger -/

/-- `until := now + ttl × TICKS_PER_SEC`, exact (45 R231). -/
def ledgerUntil (ttl : BitVec 8) (s : State) : Nat := s.now + ttl.toNat * ticksPerSec s.cfg

/-- `LEDGER(deviceId, reason, ttl)` (45 R231): the deadline is merged with `max`, the provenance overwritten. Refused
where `until` does not fit W_NOW bits (93 U1, log 12). -/
def ledger (deviceId : BitVec 24) (reason : BitVec 8) (ttl : BitVec 8) (s : State) : Result :=
  if ledgerUntil ttl s < 2 ^ s.cfg.wNow then
    .next { s with led :=
      { valid := true
        inhibitUntil := max s.led.inhibitUntil (ledgerUntil ttl s)
        lastInhibitor := deviceId
        lastReason := reason
        lastSeen := s.now } }
  else .refused .ledgerOverflow

/-! ### FrameReceiver -/

/-- `rx.state`, `rx.cnt` and nothing else of the receiver. -/
def setRx (st : RxState) (cnt : BitVec 6) (s : State) : State :=
  { s with rx := { s.rx with state := st, cnt := cnt } }

/-- To COOLDOWN for COOLDOWN_TICKS, or to IDLE where that is 0 (R198, 46 R245). -/
def enterCooldown (s : State) : State :=
  if s.cfg.cooldownTicks = 0 then setRx .idle 0 s
  else setRx .cooldown (BitVec.ofNat 6 s.cfg.cooldownTicks) s

/-- The history shifted by one place, the new symbol at 19 (R192 step 1). -/
def shiftHist (h : Vector Symbol 20) (x : Symbol) : Vector Symbol 20 :=
  ⟨(h.toList.tail ++ [x]).toArray, by simp⟩

/-- RXSTEP step 1. -/
def shiftIn (v : Bool) (t : Tone) (s : State) : State :=
  { s with rx := { s.rx with hist := shiftHist s.rx.hist ⟨v, t⟩ } }

/-- The number of entries, from index `i` on, that are valid with tone `i mod 4` (R193, R194). -/
def matchCount : Nat → List Symbol → Nat
  | _, [] => 0
  | i, x :: xs => (if x.valid && x.tone == BitVec.ofNat 2 (i % 4) then 1 else 0) + matchCount (i + 1) xs

/-- `score` (R193). -/
def matchScore (s : State) : Nat := matchCount 0 s.rx.hist.toList

/-- `rx.score <- score` (10_state.md R33). -/
def setScore (n : Nat) (s : State) : State := { s with rx := { s.rx with score := BitVec.ofNat 5 n } }

/-- `RX.IDLE` (R193). -/
def rxIdle (s : State) : State :=
  if matchScore s ≥ s.cfg.lockMin then raise .lock (setRx .sync 0 (setScore (matchScore s) s))
  else setScore (matchScore s) s

/-- `RX.SYNC(v, t)` (R195). -/
def rxSync (v : Bool) (t : Tone) (s : State) : State :=
  if v = false then raise .syncAbort (setRx .idle 0 s)
  else if t ≠ syncTone s.cfg s.rx.cnt.toNat then raise .syncAbort (setRx .idle 0 s)
  else if s.rx.cnt = 7 then { setRx .payload 0 s with rx := { (setRx .payload 0 s).rx with bits := 0 } }
  else { s with rx := { s.rx with cnt := s.rx.cnt + 1 } }

/-- `RX.COOLDOWN` (R199). -/
def rxCooldown (s : State) : State :=
  if s.rx.cnt.toNat ≤ 1 then setRx .idle 0 s else { s with rx := { s.rx with cnt := s.rx.cnt - 1 } }

/-- The DecodedFrame register of a data word (30_encoding.md R111). -/
def recordOf (d : DataWord) : OutputRecord :=
  ⟨true, dataDeviceId d, dataReason d, dataPriority d, dataTtl d, dataSeq d⟩

/-- EMIT's writes before it calls LEDGER (R200). -/
def emitRecord (d : DataWord) (s : State) : State :=
  if s.out.valid then { raise .overrun { s with st := { s.st with overrun := true } } with out := recordOf d }
  else { s with out := recordOf d }

/-- `EMIT(D)` (R200). -/
def emit (d : DataWord) (s : State) : Result :=
  andThen (ledger (dataDeviceId d) (dataReason d) (dataTtl d) (emitRecord d s)) fun s => .next (raise .frame s)

/-- The received data bits, `b[79:16]` (R198). -/
def payloadData (b : BitVec 80) : DataWord := b.extractLsb' 16 64

/-- The received CRC, `b[15:0]` (R198). -/
def payloadCrc (b : BitVec 80) : BitVec 16 := b.extractLsb' 0 16

/-- `RX.CHECK(b)` (R198). -/
def rxCheck (b : BitVec 80) (s : State) : Result :=
  if dataCrc (payloadData b) = payloadCrc b then
    andThen (emit (payloadData b) s) fun s => .next (enterCooldown s)
  else .next (raise .crc (setRx .idle 0 s))

/-- `((rx.bits << 2) | DIBIT_OF(t)) mod 2^80` (R197). -/
def pushDibit (bits : BitVec 80) (t : Tone) : BitVec 80 := (bits <<< 2) ||| (dibitOf t).zeroExtend 80

/-- RX.PAYLOAD's write of `rx.bits`. -/
def setBits (b : BitVec 80) (s : State) : State := { s with rx := { s.rx with bits := b } }

/-- `RX.PAYLOAD(v, t)` (R197). -/
def rxPayload (v : Bool) (t : Tone) (s : State) : Result :=
  if v = false then .next (raise .torn (setRx .idle 0 s))
  else if s.rx.cnt = 39 then rxCheck (pushDibit s.rx.bits t) (setBits (pushDibit s.rx.bits t) s)
  else .next { setBits (pushDibit s.rx.bits t) s with
    rx := { (setBits (pushDibit s.rx.bits t) s).rx with cnt := s.rx.cnt + 1 } }

/-- The arm of RXSTEP for the state of the receiver (R192 step 2). -/
def rxArm (v : Bool) (t : Tone) (s : State) : Result :=
  match s.rx.state with
  | .idle => .next (rxIdle s)
  | .sync => .next (rxSync v t s)
  | .payload => rxPayload v t s
  | .cooldown => .next (rxCooldown s)

/-- `RXSTEP(v, t)` (R192). -/
def rxStep (v : Bool) (t : Tone) (s : State) : Result := rxArm v t (shiftIn v t s)

def execRxstep (v : Bool) (t : Tone) (s : State) : Result := rxStep v t s

def execRxIdle (s : State) : Result := .next (rxIdle s)

def execRxSync (v : Bool) (t : Tone) (s : State) : Result := .next (rxSync v t s)

def execRxPayload (v : Bool) (t : Tone) (s : State) : Result := rxPayload v t s

def execRxCheck (b : BitVec 80) (s : State) : Result := rxCheck b s

def execRxCooldown (s : State) : Result := .next (rxCooldown s)

def execEmit (d : DataWord) (s : State) : Result := emit d s

def execLedger (deviceId : BitVec 24) (reason : BitVec 8) (ttl : BitVec 8) (s : State) : Result :=
  ledger deviceId reason ttl s

end Sys2Proof.Machine
end

