-- ==== Sys2Proof/Machine/Transmitter.lean ====
section
/-! DEFINITION. FrameTransmitter: ENCODE, TXSTEP and TXDONE (46_frame_transmitter.md). -/

namespace Sys2Proof.Machine

/-- `ENCODE(D) = SYNC_WORD ‖ D ‖ CRC16(DB[0..7] of D)` (R241). -/
def encodeData (c : Params) (d : DataWord) : FrameBits := c.syncWord ++ d ++ dataCrc d

/-- TXDONE's writes to the transmitter and the tone port (R245). -/
def txStop (s : State) : State :=
  { s with tx := { s.tx with active := false, idx := 0, en := false, tone := 0 } }

/-- TXDONE's writes to the scheduler (R245). -/
def schAfterTx (s : State) : State :=
  { s with sch := { s.sch with state := if s.slot.valid then .wait else .none, cnt := 0 } }

/-- `TXDONE` (R245). -/
def txDone (s : State) : State := raise .txDone (schAfterTx (enterCooldown (txStop s)))

/-- Output the symbol `tx.idx` and go to the next (R244). -/
def txOutput (s : State) : State :=
  { s with tx := { s.tx with en := true, tone := txSym s.tx.frame s.tx.idx.toNat, idx := s.tx.idx + 1 } }

/-- `TXSTEP()` (R244). -/
def txStep (s : State) : State :=
  if s.tx.active = false then { s with tx := { s.tx with en := false, tone := 0 } }
  else if s.tx.idx.toNat ≤ 67 then txOutput s
  else txDone s

/-- ENCODE on its own: a pure function, its result left in `ret` (logs 8, 9). -/
def execEncodeFrame (d : DataWord) (s : State) : Result := .next { s with ret := (encodeData s.cfg d).toNat }

def execTxstep (s : State) : Result := .next (txStep s)

def execTxdone (s : State) : Result := .next (txDone s)

end Sys2Proof.Machine
end

