-- ==== Sys2Proof/Machine/Schedule.lean ====
section
/-! DEFINITION. TransmitScheduler (47_transmit_scheduler.md). -/

namespace Sys2Proof.Machine

/-- `sch.state`, `sch.cnt` and nothing else of the scheduler. -/
def setSch (st : SchState) (cnt : BitVec 16) (s : State) : State :=
  { s with sch := { s.sch with state := st, cnt := cnt } }

/-- `ENQUEUE(data, prio)` (R259): fill an empty slot; a newer request of equal or higher priority supersedes the pending
one and restarts its attempt; a lower one is dropped (90_conflicts.md C1). -/
def enqueue (d : DataWord) (prio : BitVec 2) (s : State) : State :=
  if s.slot.valid = false then
    let s' := { s with slot := ⟨true, prio, d⟩ }
    if s.sch.state = .none then setSch .wait 0 s' else s'
  else if prio.toNat ≥ s.slot.prio.toNat then
    let s' := { s with slot := ⟨true, prio, d⟩ }
    if s.sch.state = .wait ∨ s.sch.state = .backoff ∨ s.sch.state = .retry then setSch .wait 0 s' else s'
  else s

/-- The backoff bound `B_TICKS[slot.prio]` (R261). -/
def backoffBound (s : State) : Nat := s.cfg.bTicks.get s.slot.prio

/-- `SCH.WAIT` (R261). -/
def schWait (rs : BitVec 16) (s : State) : State :=
  if s.cam.busy then setSch s.sch.state 0 s
  else if s.sch.cnt.toNat + 1 ≥ s.cfg.csTicks then
    setSch .backoff (BitVec.ofNat 16 (draw rs 0 (backoffBound s))) s
  else setSch s.sch.state (s.sch.cnt + 1) s

/-- `SCH.BACKOFF`, the countdown: "with `cam.busy` = 0 and `sch.cnt` > 0" (R262). -/
def schBackoff (s : State) : State :=
  if s.cam.busy = false ∧ s.sch.cnt ≠ 0 then setSch s.sch.state (s.sch.cnt - 1) s else s

/-- `sch.starve <- min(sch.starve + 1, 0xFFFF)` (R263). -/
def starveNext (n : BitVec 16) : BitVec 16 := BitVec.ofNat 16 (min (n.toNat + 1) 0xFFFF)

/-- `SCH.ABORT` (R263). -/
def schAbort (rs : BitVec 16) (s : State) : State :=
  raise .starve { s with sch :=
    { state := .retry
      cnt := BitVec.ofNat 16 (draw rs s.cfg.retryMin s.cfg.retryMax)
      starve := starveNext s.sch.starve } }

/-- `SCH.HANDOFF` (R264): the frame is a copy; `slot.prio` and `slot.data` keep their values. -/
def schHandoff (s : State) : State :=
  raise .txStart (setSch .tx 0
    { s with
      tx := { s.tx with frame := encodeData s.cfg s.slot.data, active := true, idx := 0 }
      slot := { s.slot with valid := false } })

/-- `SCH.RETRY` (R265). -/
def schRetry (s : State) : State :=
  if s.sch.cnt = 0 then setSch .wait s.sch.cnt s else setSch s.sch.state (s.sch.cnt - 1) s

/-- `SCHSTEP(R_S)` (R260). -/
def schStep (rs : BitVec 16) (s : State) : State :=
  match s.sch.state with
  | .none => s
  | .wait => schWait rs s
  | .backoff => if s.cam.busy then schAbort rs s else if s.sch.cnt = 0 then schHandoff s else schBackoff s
  | .retry => schRetry s
  | .tx => s

/-- `act.tmpl[7:0] <- (act.tmpl[7:0] + 1) mod 256` (R272). -/
def bumpSeq (d : DataWord) : DataWord := d.extractLsb' 8 56 ++ (d.extractLsb' 0 8 + 1#8)

/-- `act.gen + 1`, saturating at 3 (10_state.md R37, R272). -/
def genNext (g : BitVec 2) : BitVec 2 := if g.toNat < 3 then g + 1 else g

/-- `gap`, with the new `act.gen` (R272). -/
def nextGap (c : Params) (gen : BitVec 2) (rj : BitVec 16) : Nat :=
  if gen = 1 then c.fsOffset1 - c.fsOffset0
  else if gen = 2 then c.fsOffset2 - c.fsOffset1
  else c.refreshTicks + draw rj 0 c.refreshJitter

/-- `gap − 1` on the 16 bits of `act.timer`; a free value where it does not fit (log 15). -/
def timerOf (gap : Nat) : BitVec 16 :=
  if gap - 1 < 2 ^ 16 then BitVec.ofNat 16 (gap - 1) else Config.oversizeTimer (gap - 1)

/-- The activation after it has generated a request (R272). -/
def actGenerated (c : Params) (rj : BitVec 16) (a : Activation) : Activation :=
  { a with
    tmpl := bumpSeq a.tmpl
    gen := genNext a.gen
    timer := timerOf (nextGap c (genNext a.gen) rj) }

/-- `ACTSTEP(R_J)` (R272); E_GEN when a request is generated. -/
def actStep (rj : BitVec 16) (s : State) : State :=
  if s.act.active = false then s
  else if s.act.timer = 0 then
    let s' := enqueue s.act.tmpl s.act.prio s
    raise .gen { s' with act := actGenerated s.cfg rj s.act }
  else { s with act := { s.act with timer := s.act.timer - 1 } }

def execActstep (rj : BitVec 16) (s : State) : Result := .next (actStep rj s)

def execEnqueue (d : DataWord) (prio : BitVec 2) (s : State) : Result := .next (enqueue d prio s)

def execSchstep (rs : BitVec 16) (s : State) : Result := .next (schStep rs s)

def execSchWait (rs : BitVec 16) (s : State) : Result := .next (schWait rs s)

def execSchBackoff (s : State) : Result := .next (schBackoff s)

def execSchAbort (rs : BitVec 16) (s : State) : Result := .next (schAbort rs s)

def execSchHandoff (s : State) : Result := .next (schHandoff s)

def execSchRetry (s : State) : Result := .next (schRetry s)

end Sys2Proof.Machine
end

