-- ==== Sys2Proof/Machine/HostCommands.lean ====
section
/-! DEFINITION. The host commands (48_host_commands.md). -/

namespace Sys2Proof.Machine

/-- `st.cmd_err <- 1 ; raise E_CMD` (60_exceptions.md R328). -/
def commandError (s : State) : State := raise .cmd { s with st := { s.st with cmdErr := true } }

/-- `NOP` (R292). -/
def execNop (s : State) : Result := .next s

/-- `RDREG addr` (R293). -/
def execRdreg (addr : BitVec 8) (s : State) : Result :=
  match regValue s addr with
  | some v => .next (respond [v] s)
  | none => .next (commandError (respond [0] s))

/-- `SUBMIT prio, D` (R294). -/
def execSubmit (prio : BitVec 2) (d : DataWord) (s : State) : Result := .next (enqueue d prio s)

/-- `ACTIVATE prio, D` (R295, 47_transmit_scheduler.md R270). -/
def execActivate (prio : BitVec 2) (d : DataWord) (s : State) : Result :=
  .next { s with act := ⟨true, prio, d, 0, BitVec.ofNat 16 s.cfg.fsOffset0⟩ }

/-- `DEACTIVATE` (R296, 47_transmit_scheduler.md R271). -/
def execDeactivate (s : State) : Result := .next { s with act := { s.act with active := false } }

/-- The two words of a popped record (30_encoding.md R123). -/
def popWords (o : OutputRecord) : List Word :=
  [1#1 ++ 0#5 ++ o.priority ++ o.deviceId, o.reason ++ o.ttl ++ o.seq ++ 0#8]

/-- `POPF` (R297). -/
def execPopf (s : State) : Result :=
  if s.out.valid then .next (respond (popWords s.out) { s with out := { s.out with valid := false } })
  else .next (respond [0, 0] s)

/-- `QINH` (R298). -/
def execQinh (s : State) : Result := .next (respond [0#31 ++ bit (isInhibited s)] s)

/-- `QLAST` (R299). -/
def execQlast (s : State) : Result :=
  .next (respond [lastIdWord s, s.led.lastReason.zeroExtend 32, registerWord s.led.lastSeen] s)

/-- `CLRF` (R300). -/
def execClrf (s : State) : Result := .next { s with st := ⟨false, false⟩ }

/-- `SRESET` (R302). -/
def execSreset (s : State) : Result := .next (resetMachine s)

/-- An illegal command word (R301). -/
def execIllegal (_w : Word) (s : State) : Result := .next (commandError s)

end Sys2Proof.Machine
end

