-- ==== Sys2Proof/Machine/Analyzer.lean ====
section
/-! DEFINITION. ToneEnergyAnalyzer: GOERTZEL and ANALYZE (41_tone_energy_analyzer.md). -/

namespace Sys2Proof.Machine

/-- The two recurrence registers of one tone. -/
structure Recurrence where
  s1 : Int
  s2 : Int
deriving DecidableEq, Repr

/-- One turn of the loop of R152 with sample `x`; `>> 14` rounds toward minus infinity, and the high bits above W_ACC are
dropped silently (R154). -/
def goertzelTurn (wAcc : Nat) (coeff : BitVec 16) (r : Recurrence) (x : Int) : Recurrence :=
  ⟨wrapSigned wAcc (x + (coeff.toInt * r.s1) >>> 14 - r.s2), r.s1⟩

/-- The loop of R152 over the samples, from cleared registers. -/
def goertzelLoop (wAcc : Nat) (coeff : BitVec 16) (samples : List Int) : Recurrence :=
  samples.foldl (goertzelTurn wAcc coeff) ⟨0, 0⟩

/-- `raw` (R152), exact. -/
def goertzelRaw (coeff : BitVec 16) (r : Recurrence) : Int :=
  r.s1 * r.s1 + r.s2 * r.s2 - (coeff.toInt * r.s1 * r.s2) >>> 14

/-- The recurrence of tone `t` over the window of this tick. -/
def toneRecurrence (s : State) (t : Tone) : Recurrence :=
  goertzelLoop s.cfg.wAcc (s.cfg.coeff.get t) (windowSamples s)

/-- The energy of tone `t` where its recurrence ends at `r`: what GOERTZEL returns (R152), clamped at 0 and saturated
at 2^W_E − 1 (R154). -/
def energyFrom (s : State) (t : Tone) (r : Recurrence) : Nat :=
  saturated s.cfg.wE (goertzelRaw (s.cfg.coeff.get t) r)

/-- What GOERTZEL writes: `an.s1[t]` and `an.s2[t]` (R152). -/
def goertzelRegs (t : Tone) (s : State) : State :=
  let r := toneRecurrence s t
  { s with an := { s.an with s1 := s.an.s1.set t r.s1, s2 := s.an.s2.set t r.s2 } }

/-- `an.total`, the sum of the energies on 64 bits (10_state.md R23); a free value where it does not fit (log 2). -/
def totalOf (e : Four Nat) : BitVec 64 :=
  if e.t0 + e.t1 + e.t2 + e.t3 < 2 ^ 64 then BitVec.ofNat 64 (e.t0 + e.t1 + e.t2 + e.t3)
  else Config.oversizeTotal (e.t0 + e.t1 + e.t2 + e.t3)

/-- `ANALYZE` (R153): the four energies and their sum. -/
def analyze (s : State) : State :=
  let r0 := toneRecurrence s 0
  let r1 := toneRecurrence s 1
  let r2 := toneRecurrence s 2
  let r3 := toneRecurrence s 3
  let e : Four Nat := ⟨energyFrom s 0 r0, energyFrom s 1 r1, energyFrom s 2 r2, energyFrom s 3 r3⟩
  { s with an :=
      { s1 := ⟨r0.s1, r1.s1, r2.s1, r3.s1⟩
        s2 := ⟨r0.s2, r1.s2, r2.s2, r3.s2⟩
        energy := e
        total := totalOf e } }

/-- ANALYZE on its own, on the window in the buffer (log 9). -/
def execAnalyze (s : State) : Result := .next (analyze s)

/-- GOERTZEL on its own; the energy it returns is left in `ret` (logs 8, 9). -/
def execGoertzel (t : Tone) (s : State) : Result :=
  .next { goertzelRegs t s with ret := energyFrom s t (toneRecurrence s t) }

end Sys2Proof.Machine
end

