-- ==== Sys2Proof/Machine/Decider.lean ====
section
/-! DEFINITION. SymbolDecider, noise-floor tracker and ChannelActivityMonitor (42_symbol_decider_monitor.md). -/

namespace Sys2Proof.Machine

/-- The decision of an observed window (R168). -/
def decideObserved (s : State) : State :=
  if gateOk s && confOk s then { s with sd := ⟨true, argmax s⟩ }
  else raise .reject { s with sd := ⟨false, 0⟩ }

/-- `DECIDE(obs)` (R168). -/
def decideSymbol (obs : Bool) (s : State) : State :=
  if obs then decideObserved s else { s with sd := ⟨false, 0⟩ }

/-- `MONITOR()` (R176). -/
def monitor (s : State) : State :=
  if aboveThreshold s != s.cam.busy then
    if s.cam.cnt.toNat + 1 ≥ s.cfg.camK then { s with cam := ⟨!s.cam.busy, 0⟩ }
    else { s with cam := { s.cam with cnt := s.cam.cnt + 1 } }
  else { s with cam := { s.cam with cnt := 0 } }

/-- The update of `nf.acc` (R172), on its 64 + NF_SHIFT bits (10_state.md R25). -/
def nfNext (s : State) : BitVec 80 :=
  BitVec.ofNat 80
    ((s.nfAcc.toNat - s.nfAcc.toNat >>> s.cfg.nfShift + s.an.total.toNat) % 2 ^ (64 + s.cfg.nfShift))

/-- `NFUPDATE()` (R172): only while the channel is idle and no frame is mid-decode. -/
def nfUpdate (s : State) : State :=
  if s.cam.busy = false ∧ s.rx.state ≠ .sync ∧ s.rx.state ≠ .payload then { s with nfAcc := nfNext s } else s

def execDecideSym (obs : Bool) (s : State) : Result := .next (decideSymbol obs s)

def execMonitor (s : State) : Result := .next (monitor s)

def execNfupdate (s : State) : Result := .next (nfUpdate s)

end Sys2Proof.Machine
end

