-- ==== Sys2Proof/Machine/Tick.lean ====
section
/-! DEFINITION. The TICK step (40_tick.md), the symbol tick and the reception of a frame. -/

namespace Sys2Proof.Machine

/-- Steps 5 to 9 of TICK (R140). -/
def tickTail (obs : Bool) (rnd : Word) (s : State) : Result :=
  andThen (rxStep s.sd.valid s.sd.tone s) fun s =>
    .next (txStep (schStep (entropyS rnd) (actStep (entropyJ rnd) (if obs then nfUpdate s else s))))

/-- The window of this tick is complete: `win_ok` = 1 and exactly N samples (20_memory.md R72). -/
def windowOk (winOk : Bool) (s : State) : Bool := winOk && s.win.length == windowLen s.cfg

/-- Steps 2 to 4 of TICK (R140). -/
def tickFront (obs : Bool) (s : State) : State :=
  if obs then monitor (decideSymbol true (analyze s)) else decideSymbol false s

/-- TICK with the window already in the buffer (R140). E_GAP where no complete window was handed over (60_exceptions.md
R321); `obs` needs a complete window and a transmitter that was silent (R141). -/
def tick (winOk : Bool) (rnd : Word) (s : State) : Result :=
  andThen (advanceClock s) fun s1 =>
    let ok := windowOk winOk s1
    let obs := ok && !s1.tx.active
    tickTail obs rnd (tickFront obs (if ok then s1 else raise .gap s1))

/-- A tick seen at symbol level (log 10): the decision of the tick is the valid symbol `t`, or the invalid symbol where
TED itself was transmitting (R141 (b)); no window is analysed, so the monitor and the noise floor hold. -/
def symbolTick (t : Tone) (rnd : Word) (s : State) : Result :=
  andThen (advanceClock s) fun s1 =>
    tickTail false rnd { s1 with sd := if s1.tx.active then ⟨false, 0⟩ else ⟨true, t⟩ }

/-- One symbol tick for each tone, with the entropy word of each; a missing one is 0 (30_encoding.md R130). -/
def symbolTicks : List Tone → List Word → State → Result
  | [], _, s => .next s
  | t :: ts, rnds, s => andThen (symbolTick t (rnds.headD 0) s) fun s => symbolTicks ts rnds.tail s

/-- The 48 symbols of 96 bits arriving one after the other (30_encoding.md R103, log 11). -/
def receiveBits (bits : FrameBits) (rnds : List Word) (s : State) : Result := symbolTicks (frameSymbols bits) rnds s

/-- `TICK.WIN` (R140): the sampler hands the window over. -/
def execTickWin (win : List Sample) (rnd : Word) (s : State) : Result := tick true rnd { s with win := win }

/-- `TICK.MISS` (R140): there is no window; the buffer holds none (93_implementation_defined.md U12, log 14). -/
def execTickMiss (rnd : Word) (s : State) : Result := tick false rnd { s with win := [] }

/-- A frame on the wire (30_encoding.md R103, R108, R109). -/
def execFrame (f : WireFrame) (rnds : List Word) (s : State) : Result :=
  receiveBits (wireBits s.cfg.syncWord f) rnds s

/-- The symbol of tone 0 on the wire (30_encoding.md R100). -/
def execTone0 (rnd : Word) (s : State) : Result := symbolTick 0 rnd s

/-- The symbol of tone 1 on the wire (30_encoding.md R100). -/
def execTone1 (rnd : Word) (s : State) : Result := symbolTick 1 rnd s

/-- The symbol of tone 2 on the wire (30_encoding.md R100). -/
def execTone2 (rnd : Word) (s : State) : Result := symbolTick 2 rnd s

/-- The symbol of tone 3 on the wire (30_encoding.md R100). -/
def execTone3 (rnd : Word) (s : State) : Result := symbolTick 3 rnd s

end Sys2Proof.Machine
end

