-- ==== Sys2Proof/Machine/Dispatch.lean ====
section
/-! DEFINITION. One arm per instruction: a direct call of its meaning. -/

namespace Sys2Proof.Machine

def exec (i : Instr) (s : State) : Host.Outcome State Fault Refusal :=
  match i with
  | .nop => Sys2Proof.Machine.execNop s
  | .rdreg addr => Sys2Proof.Machine.execRdreg addr s
  | .submit prio d => Sys2Proof.Machine.execSubmit prio d s
  | .activate prio d => Sys2Proof.Machine.execActivate prio d s
  | .deactivate => Sys2Proof.Machine.execDeactivate s
  | .popf => Sys2Proof.Machine.execPopf s
  | .qinh => Sys2Proof.Machine.execQinh s
  | .qlast => Sys2Proof.Machine.execQlast s
  | .clrf => Sys2Proof.Machine.execClrf s
  | .sreset => Sys2Proof.Machine.execSreset s
  | .illegal w => Sys2Proof.Machine.execIllegal w s
  | .tickWin win rnd => Sys2Proof.Machine.execTickWin win rnd s
  | .tickMiss rnd => Sys2Proof.Machine.execTickMiss rnd s
  | .frame f rnds => Sys2Proof.Machine.execFrame f rnds s
  | .tone0 rnd => Sys2Proof.Machine.execTone0 rnd s
  | .tone1 rnd => Sys2Proof.Machine.execTone1 rnd s
  | .tone2 rnd => Sys2Proof.Machine.execTone2 rnd s
  | .tone3 rnd => Sys2Proof.Machine.execTone3 rnd s
  | .analyze => Sys2Proof.Machine.execAnalyze s
  | .goertzel t => Sys2Proof.Machine.execGoertzel t s
  | .decideSym obs => Sys2Proof.Machine.execDecideSym obs s
  | .monitor => Sys2Proof.Machine.execMonitor s
  | .rxstep v t => Sys2Proof.Machine.execRxstep v t s
  | .rxIdle => Sys2Proof.Machine.execRxIdle s
  | .rxSync v t => Sys2Proof.Machine.execRxSync v t s
  | .rxPayload v t => Sys2Proof.Machine.execRxPayload v t s
  | .rxCheck b => Sys2Proof.Machine.execRxCheck b s
  | .rxCooldown => Sys2Proof.Machine.execRxCooldown s
  | .emit d => Sys2Proof.Machine.execEmit d s
  | .crc16 bytes => Sys2Proof.Machine.execCrc16 bytes s
  | .ledger deviceId reason ttl => Sys2Proof.Machine.execLedger deviceId reason ttl s
  | .nfupdate => Sys2Proof.Machine.execNfupdate s
  | .actstep rj => Sys2Proof.Machine.execActstep rj s
  | .enqueue d prio => Sys2Proof.Machine.execEnqueue d prio s
  | .schstep rs => Sys2Proof.Machine.execSchstep rs s
  | .schWait rs => Sys2Proof.Machine.execSchWait rs s
  | .schBackoff => Sys2Proof.Machine.execSchBackoff s
  | .schAbort rs => Sys2Proof.Machine.execSchAbort rs s
  | .schHandoff => Sys2Proof.Machine.execSchHandoff s
  | .schRetry => Sys2Proof.Machine.execSchRetry s
  | .encodeFrame d => Sys2Proof.Machine.execEncodeFrame d s
  | .txstep => Sys2Proof.Machine.execTxstep s
  | .txdone => Sys2Proof.Machine.execTxdone s

end Sys2Proof.Machine
end

