-- ==== Sys2Proof/Machine/Run.lean ====
section
/-! DEFINITION. Fetching: what one port event makes the machine do. -/

namespace Sys2Proof.Machine

/-- Perform what an event amounts to. An instruction runs with the command words that stay held; a word of an
unfinished command is only held (48_host_commands.md R290); `rst` resets (70_reset_and_hazards.md R350); 96 bits
that are no frame arrive as the symbols they are (30_encoding.md R109). -/
def perform (d : Decoded) (s : State) : Result :=
  match d with
  | .instr i pend => exec i { s with pend := pend }
  | .more pend => .next { s with pend := pend }
  | .reset => .next (resetMachine s)
  | .unframed bits rnds => receiveBits bits rnds s

/-- Take the next event of the input; with none, TED stands still (60_exceptions.md R342, log 4). -/
def consume (s : State) : Result :=
  match s.input with
  | [] => .next s
  | e :: es => perform (decodeEvent s.cfg.syncWord s.pend e) { s with input := es }

/-- One step: a record that breaks 00_scope.md R11 is refused (log 13). -/
def runStep (s : State) : Result :=
  if configOk s.cfg then consume (clearOutputs s) else .refused .badConfig

end Sys2Proof.Machine
end

