-- ==== Sys2Proof/Machine/Step.lean ====
section
/-! DEFINITION. The one step of the machine, and the placing of an opcode-table word where it fetches. -/

namespace Sys2Proof.Machine

/-- One step: the next port event is taken and performed (Machine/Run.lean). -/
def step (s : State) : Host.Outcome State Fault Refusal := runStep s

/-- `s` with the instruction of `nbits` bits `w` placed where `step` takes its next event (logs 3, 19). -/
def State.withFetchWord (s : State) (nbits w : Nat) : State := placeEvents (tableEvents s.cfg nbits w) s

end Sys2Proof.Machine
end

