-- ==== Sys2Proof/Safety.lean ====
section
/-! DEFINITION. What the statements speak of: sequences of instructions, the premise of
93_implementation_defined.md U1, and the invariants of 10_state.md R60. -/

namespace Sys2Proof.Machine

/-- The instructions one after the other, stopping at the first stop. -/
def runAll : List Instr → State → Result
  | [], s => .next s
  | i :: is, s => andThen (exec i s) fun t => runAll is t

/-- `now + 255 × TICKS_PER_SEC < 2^W_NOW`, the premise of 93_implementation_defined.md U1, `ahead` ticks from now. -/
abbrev clockAhead (ahead : Nat) (s : State) : Prop := s.now + ahead + 255 * ticksPerSec s.cfg < 2 ^ s.cfg.wNow

/-- A host command (48_host_commands.md), ILLEGAL included. -/
def isCommand : Instr → Bool
  | .nop | .rdreg _ | .submit _ _ | .activate _ _ | .deactivate | .popf | .qinh | .qlast | .clrf | .sreset => true
  | .illegal _ => true
  | .tickWin _ _ | .tickMiss _ | .frame _ _ | .tone0 _ | .tone1 _ | .tone2 _ | .tone3 _ => false
  | .analyze | .goertzel _ | .decideSym _ | .monitor | .rxstep _ _ | .rxIdle | .rxSync _ _ | .rxPayload _ _ => false
  | .rxCheck _ | .rxCooldown | .emit _ | .crc16 _ | .ledger _ _ _ | .nfupdate | .actstep _ | .enqueue _ _ => false
  | .schstep _ | .schWait _ | .schBackoff | .schAbort _ | .schHandoff | .schRetry | .encodeFrame _ => false
  | .txstep | .txdone => false

/-- The row TONE0 to TONE3 of a tone. -/
def toneInstr (t : Tone) (rnd : Word) : Instr :=
  if t = 0 then .tone0 rnd else if t = 1 then .tone1 rnd else if t = 2 then .tone2 rnd else .tone3 rnd

/-- The symbols of a whole transmission of the data word `d` (30_encoding.md R106), `rnd` 0 in every period. -/
def transmission (c : Params) (d : DataWord) : List Instr :=
  (List.range 68).map fun i => toneInstr (txSym (encodeData c d) i) 0

/-- Nothing of TED's own is about to transmit: no request, no activation, no transmission. -/
abbrev transmitQuiet (s : State) : Prop :=
  s.tx.active = false ∧ s.sch.state = .none ∧ s.act.active = false

/-! ### The clauses of 10_state.md R60 -/

/-- (a) `tx.active` = 1 exactly when `sch.state` = S_TX. -/
abbrev activeInTx (s : State) : Prop := s.tx.active = true ↔ s.sch.state = .tx

/-- (b) the slot is empty in S_NONE and holds a request in S_WAIT, S_BACKOFF and S_RETRY. -/
abbrev slotMatches (s : State) : Prop :=
  (s.sch.state = .none → s.slot.valid = false) ∧
  (s.sch.state = .wait ∨ s.sch.state = .backoff ∨ s.sch.state = .retry → s.slot.valid = true)

/-- (c) an invalid symbol has tone 0, in `sd` and in the history. -/
abbrev symbolsClean (s : State) : Prop :=
  (s.sd.valid = false → s.sd.tone = 0) ∧ ∀ x ∈ s.rx.hist.toList, x.valid = false → x.tone = 0

/-- (d) `an.total` is the sum of the energies, which its 64 bits hold for W_E up to 62 (10_state.md R23, log 2). -/
abbrev totalIsSum (s : State) : Prop :=
  s.cfg.wE ≤ 62 → s.an.total.toNat = s.an.energy.t0 + s.an.energy.t1 + s.an.energy.t2 + s.an.energy.t3

/-- (e) the range of `rx.cnt` in each state of the receiver. -/
abbrev rxCntBounded (s : State) : Prop :=
  (s.rx.state = .idle → s.rx.cnt.toNat = 0) ∧ (s.rx.state = .sync → s.rx.cnt.toNat ≤ 7) ∧
  (s.rx.state = .payload → s.rx.cnt.toNat ≤ 39) ∧
  (s.rx.state = .cooldown → 1 ≤ s.rx.cnt.toNat ∧ s.rx.cnt.toNat ≤ s.cfg.cooldownTicks)

/-- (f) `cam.cnt` < CAM_K. -/
abbrev camCntBounded (s : State) : Prop := s.cam.cnt.toNat < s.cfg.camK

/-- (g) `tx.idx` is at most 68, and 0 when nothing is sent. -/
abbrev txIdxBounded (s : State) : Prop := s.tx.idx.toNat ≤ 68 ∧ (s.tx.active = false → s.tx.idx.toNat = 0)

/-- 10_state.md R60 (a) to (g). -/
abbrev Inv (s : State) : Prop :=
  activeInTx s ∧ slotMatches s ∧ symbolsClean s ∧ totalIsSum s ∧ rxCntBounded s ∧ camCntBounded s ∧ txIdxBounded s

/-! ### Further invariants -/

/-- A number of W bits, signed. -/
abbrev signedFits (w : Nat) (v : Int) : Prop := -(2 ^ (w - 1)) ≤ v ∧ v < 2 ^ (w - 1)

/-- The Goertzel registers have W_ACC bits and the energies W_E (10_state.md R22, R23). -/
abbrev analyzerFits (s : State) : Prop :=
  ∀ t : Tone, signedFits s.cfg.wAcc (s.an.s1.get t) ∧ signedFits s.cfg.wAcc (s.an.s2.get t) ∧
    s.an.energy.get t < 2 ^ s.cfg.wE

/-- `now` and the two times of the ledger have W_NOW bits (10_state.md R30, R43). -/
abbrev timesFit (s : State) : Prop :=
  s.now < 2 ^ s.cfg.wNow ∧ s.led.inhibitUntil < 2 ^ s.cfg.wNow ∧ s.led.lastSeen < 2 ^ s.cfg.wNow

/-- "`nf.acc` never exceeds (2^64 − 1) × 2^NF_SHIFT" (42_symbol_decider_monitor.md R172). -/
abbrev noiseFloorFits (s : State) : Prop := s.nfAcc.toNat ≤ (2 ^ 64 - 1) * 2 ^ s.cfg.nfShift

/-- The range of `sch.cnt` (10_state.md R36): 0 to CS_TICKS − 1 in S_WAIT, 0 in S_NONE and S_TX. -/
abbrev schCntBounded (s : State) : Prop :=
  (s.sch.state = .none ∨ s.sch.state = .tx → s.sch.cnt.toNat = 0) ∧
  (s.sch.state = .wait → s.sch.cnt.toNat + 1 ≤ s.cfg.csTicks)

/-- The frame being sent is the encoding of its data word (10_state.md R28). -/
abbrev sentFrameEncoded (s : State) : Prop :=
  s.tx.active = true → s.tx.frame = encodeData s.cfg (s.tx.frame.extractLsb' 16 64)

/-- The words the command port holds are the beginning of one three-word command (48_host_commands.md R290). -/
abbrev portHoldsPrefix (s : State) : Prop :=
  s.pend.length ≤ 2 ∧ s.pend.head?.all takesPayload = true

/-- Before the first frame the ledger is as after reset (45_inhibition_ledger.md R234). -/
abbrev ledgerFresh (s : State) : Prop := s.led.valid = false → s.led = ⟨false, 0, 0, 0, 0⟩

/-- The tone output port drives a tone exactly while a transmission runs (46_frame_transmitter.md R247). -/
abbrev portFollowsTx (s : State) : Prop := s.tx.en = s.tx.active ∧ (s.tx.en = false → s.tx.tone = 0)

end Sys2Proof.Machine
end

