-- ==== Sys2Proof/Certificates/Slice0/Obligations.lean ====
section
/-! DEFINITION. The statements about TED, each a proposition for the provers. -/

open Sys2Proof Sys2Proof.Machine

/-! ### Encodings -/

/-- Words written out from the encodings of spec/30_encoding.md and of its worked examples decode to the instructions
they stand for. -/
def Obligations.SpecWordsDecode : Prop :=
  decodeStream 0xE4B1#16 [] [.word 0x00000000#32] = some (.nop, []) ∧
  decodeStream 0xE4B1#16 [] [.word 0x10000049#32] = some (.rdreg 0x49#8, []) ∧
  decodeStream 0xE4B1#16 [] [.word 0x20000003#32, .word 0x11C0ABCD#32, .word 0xEF020C07#32] =
    some (.submit 3#2 0x11C0ABCDEF020C07#64, []) ∧
  decodeStream 0xE4B1#16 [] [.word 0x20000004#32, .word 0#32] = some (.illegal 0x20000004#32, [.word 0#32]) ∧
  decodeStream 0xE4B1#16 [] [.tick 1#1 [-5] 0x25#32] = some (.tickWin [-5] 0x25#32, []) ∧
  decodeStream 0xE4B1#16 [] [.tick 0#1 [-5] 0x25#32] = some (.tickMiss 0x25#32, []) ∧
  decodeStream 0xE4B1#16 [] [.symbol 0b10#2 0#32] = some (.tone3 0#32, []) ∧
  decodeStream 0xE4B1#16 [] [.frame 0xE4B111C0ABCDEF020C0706EA#96 []] =
    some (.frame ⟨1#4, 1#4, 3#2, 0#6, 0xABCDEF#24, 2#8, 12#8, 7#8, 0x06EA#16⟩ [], [])

/-- Decoding the events of a well-formed instruction gives it back, for every instruction that has an encoding and
every operand; what follows it is left alone. -/
def Obligations.DecodeEncodeAgree : Prop :=
  ∀ (sync : BitVec 16) (i : Instr) (evs rest : List PortEvent),
    WellFormed i = true → encode sync i = some evs → decodeStream sync [] (evs ++ rest) = some (i, rest)

/-- Every sequence of command words has one meaning, and encoding it gives the words back (R124, R125, R291); a first word
is ILLEGAL exactly where no row of the opcode map matches it. -/
def Obligations.CommandWordsHaveOneMeaning : Prop :=
  (∀ w0 : Word, takesPayload w0 = false →
    ∃ i, decodeWords [w0] = .instr i [] ∧ WellFormed i = true ∧ encodeWords i = some [w0] ∧
      (i = .illegal w0 ↔ reservedFirstWord w0 = true)) ∧
  (∀ w0 w1 w2 : Word, takesPayload w0 = true →
    decodeWords [w0] = .more [w0] ∧ decodeWords [w0, w1] = .more [w0, w1] ∧ reservedFirstWord w0 = false ∧
    ∃ i, decodeWords [w0, w1, w2] = .instr i [] ∧ WellFormed i = true ∧ encodeWords i = some [w0, w1, w2])

/-- The frame layout of R103 loses no bit: fields to bits to fields, and bits to fields to bits. -/
def Obligations.FrameLayoutRoundTrip : Prop :=
  (∀ (sync : BitVec 16) (f : WireFrame),
    wireFields (wireBits sync f) = f ∧ (wireBits sync f).extractLsb' 80 16 = sync) ∧
  ∀ bits : FrameBits, wireBits (bits.extractLsb' 80 16) (wireFields bits) = bits

/-- The Gray code of R100: its table, and that adjacent tones differ in exactly one bit of their dibits. -/
def Obligations.GrayCodeTable : Prop :=
  toneOf 0b00#2 = 0#2 ∧ toneOf 0b01#2 = 1#2 ∧ toneOf 0b11#2 = 2#2 ∧ toneOf 0b10#2 = 3#2 ∧
  (∀ b : BitVec 2, dibitOf (toneOf b) = b ∧ toneOf b = b ^^^ (b >>> 1)) ∧
  ∀ t : Tone, dibitOf t ^^^ dibitOf (t + 1#2) = 0b01#2 ∨ dibitOf t ^^^ dibitOf (t + 1#2) = 0b10#2

/-! ### The step -/

/-- Where the next event completes an instruction, the step is that instruction, on the state with the event taken, the
command words updated and the outputs of the last step gone (logs 3, 5, 6, 7). -/
def Obligations.StepRunsDecodedInstruction : Prop :=
  ∀ (s : State) (e : PortEvent) (es : List PortEvent) (i : Instr) (p : List Word),
    configOk s.cfg = true → s.input = e :: es → decodeEvent s.cfg.syncWord s.pend e = .instr i p →
    step s = exec i { s with input := es, pend := p, resp := [], events := [] }

/-- What the step does with the other events (the model's choices: logs 4, 5, 11, 13): nothing to take, a word of an unfinished
command, the reset input, 96 bits that are no frame, and a configuration record that breaks R11. -/
def Obligations.StepOnOtherEvents : Prop :=
  ∀ s : State,
    (configOk s.cfg = false → step s = .refused .badConfig) ∧
    (configOk s.cfg = true → s.input = [] → step s = .next { s with resp := [], events := [] }) ∧
    ∀ (e : PortEvent) (es : List PortEvent), configOk s.cfg = true → s.input = e :: es →
      (∀ p, decodeEvent s.cfg.syncWord s.pend e = .more p →
        step s = .next { s with input := es, pend := p, resp := [], events := [] }) ∧
      (e = .rst → step s = exec .sreset { s with input := es, resp := [], events := [] }) ∧
      (∀ bits rnds, decodeEvent s.cfg.syncWord s.pend e = .unframed bits rnds →
        step s = runAll ((List.range 48).map fun j => toneInstr (frameSymbol bits j) (rnds.getD j 0))
          { s with input := es, resp := [], events := [] })

/-! ### Reset -/

/-- SRESET gives every register its reset value (R302, R351); the configuration record, the window and the events still
to come stay (log 18), and the command port holds no word. -/
def Obligations.SresetResetsEveryRegister : Prop :=
  decodeWords [0x3F000000#32] = .instr .sreset [] ∧
  ∀ s : State, ∃ t, exec .sreset s = .next t ∧
    t.now = 0 ∧ t.an = ⟨⟨0, 0, 0, 0⟩, ⟨0, 0, 0, 0⟩, ⟨0, 0, 0, 0⟩, 0⟩ ∧ t.sd = ⟨false, 0⟩ ∧
    t.nfAcc = BitVec.ofNat 80 (s.cfg.nfInit * 2 ^ s.cfg.nfShift) ∧ t.cam = ⟨false, 0⟩ ∧
    t.rx.state = .idle ∧ t.rx.cnt = 0 ∧ t.rx.score = 0 ∧ t.rx.bits = 0 ∧
    (∀ x ∈ t.rx.hist.toList, x = ⟨false, 0⟩) ∧
    t.out = ⟨false, 0, 0, 0, 0, 0⟩ ∧ t.led = ⟨false, 0, 0, 0, 0⟩ ∧ t.slot = ⟨false, 0, 0⟩ ∧
    t.sch = ⟨.none, 0, 0⟩ ∧ t.act = ⟨false, 0, 0, 0, 0⟩ ∧ t.tx = ⟨false, 0, 0, false, 0⟩ ∧ t.st = ⟨false, false⟩ ∧
    levelBusy t = false ∧ levelFrameAvail t = false ∧ levelInhibited t = false ∧ levelTxEn t = false ∧
    t.cfg = s.cfg ∧ t.win = s.win ∧ t.input = s.input ∧ t.pend = [] ∧ t.resp = s.resp ∧
    t.events = s.events ++ [(0, .reset)]

/-! ### Host commands -/

/-- NOP changes nothing (R292). -/
def Obligations.NopChangesNothing : Prop :=
  decodeWords [0x00000000#32] = .instr .nop [] ∧ ∀ s : State, exec .nop s = .next s

/-- RDREG of a listed address answers one word and changes nothing; of any other it answers 0 and sets `st.cmd_err` (R293). -/
def Obligations.RdregAnswersOneWord : Prop :=
  ∀ (s : State) (addr : BitVec 8),
    (addr.toNat ≤ 0x17 ∨ 0x40 ≤ addr.toNat ∧ addr.toNat ≤ 0x5F →
      ∃ v, exec (.rdreg addr) s = .next { s with resp := s.resp ++ [v] }) ∧
    (0x18 ≤ addr.toNat ∧ addr.toNat ≤ 0x3F ∨ 0x60 ≤ addr.toNat →
      exec (.rdreg addr) s = .next { s with
        resp := s.resp ++ [0], st := { s.st with cmdErr := true }, events := s.events ++ [(s.now, .cmd)] })

/-- The status registers hold the bits of the table of R51, the receiver's state coded as R31 and the scheduler's as R35
say, for widths no larger than those of the map (R23, R30; log 2) and states the invariants allow. -/
def Obligations.StatusRegisterMap : Prop :=
  ∀ s : State, s.cfg.wNow ≤ 32 → s.cfg.wE ≤ 62 → timesFit s → analyzerFits s →
    s.nfAcc.toNat >>> s.cfg.nfShift < 2 ^ 64 → ∃ (r : BitVec 8 → Word) (rxState : BitVec 2) (schState : BitVec 3),
    rxState = (match s.rx.state with
      | .idle => 0#2
      | .sync => 1#2
      | .payload => 2#2
      | .cooldown => 3#2) ∧
    schState = (match s.sch.state with
      | .none => 0#3
      | .wait => 1#3
      | .backoff => 2#3
      | .retry => 3#3
      | .tx => 4#3) ∧
    (∀ a : BitVec 8, a.toNat ≤ 0x17 → exec (.rdreg a) s = .next { s with resp := s.resp ++ [r a] }) ∧
    r 0x00 = 0x54454431#32 ∧
    ((r 0x01).getLsbD 0 = s.cam.busy ∧ (r 0x01).getLsbD 1 = s.out.valid ∧ (r 0x01).getLsbD 2 = s.st.overrun ∧
      (r 0x01).getLsbD 3 = s.st.cmdErr ∧ (r 0x01).getLsbD 4 = s.tx.active ∧
      (r 0x01).getLsbD 5 = decide (s.now < s.led.inhibitUntil) ∧ (r 0x01).getLsbD 6 = s.act.active ∧
      (r 0x01).getLsbD 7 = s.slot.valid ∧ (r 0x01).extractLsb' 8 2 = rxState ∧
      (r 0x01).extractLsb' 10 3 = schState ∧ (r 0x01).getLsbD 13 = s.sd.valid ∧
      (r 0x01).extractLsb' 14 2 = s.sd.tone ∧ (r 0x01).getLsbD 16 = s.led.valid ∧ (r 0x01).getLsbD 17 = s.tx.en ∧
      (r 0x01).extractLsb' 18 2 = s.tx.tone ∧ (r 0x01).extractLsb' 20 12 = 0) ∧
    (r 0x02).toNat = s.now ∧
    (r 0x04).toNat * 2 ^ 32 + (r 0x03).toNat = s.nfAcc.toNat >>> s.cfg.nfShift ∧
    (r 0x06).toNat * 2 ^ 32 + (r 0x05).toNat = s.an.energy.t0 ∧
    (r 0x08).toNat * 2 ^ 32 + (r 0x07).toNat = s.an.energy.t1 ∧
    (r 0x0A).toNat * 2 ^ 32 + (r 0x09).toNat = s.an.energy.t2 ∧
    (r 0x0C).toNat * 2 ^ 32 + (r 0x0B).toNat = s.an.energy.t3 ∧
    (r 0x0E).toNat * 2 ^ 32 + (r 0x0D).toNat = s.an.total.toNat ∧
    ((r 0x0F).extractLsb' 0 2 = rxState ∧ (r 0x0F).extractLsb' 8 6 = s.rx.cnt ∧
      (r 0x0F).extractLsb' 16 5 = s.rx.score ∧ (r 0x0F) &&& 0xFFE0C0FC#32 = 0) ∧
    ((r 0x10).extractLsb' 0 3 = schState ∧ (r 0x10).getLsbD 3 = s.slot.valid ∧
      (r 0x10).extractLsb' 4 2 = s.slot.prio ∧ (r 0x10).extractLsb' 8 16 = s.sch.cnt ∧
      (r 0x10) &&& 0xFF0000C0#32 = 0) ∧
    (r 0x11).toNat = s.sch.starve.toNat ∧
    ((r 0x12).getLsbD 0 = s.act.active ∧ (r 0x12).extractLsb' 1 2 = s.act.prio ∧
      (r 0x12).extractLsb' 3 2 = s.act.gen ∧ (r 0x12).extractLsb' 16 16 = s.act.timer ∧
      (r 0x12) &&& 0x0000FFE0#32 = 0) ∧
    (r 0x13).toNat = s.led.inhibitUntil ∧
    ((r 0x14).getLsbD 31 = s.led.valid ∧ (r 0x14).extractLsb' 0 24 = s.led.lastInhibitor ∧
      (r 0x14) &&& 0x7F000000#32 = 0) ∧
    (r 0x15).toNat = s.led.lastReason.toNat ∧ (r 0x16).toNat = s.led.lastSeen ∧
    ((r 0x17).getLsbD 0 = s.cam.busy ∧ (r 0x17).extractLsb' 8 8 = s.cam.cnt ∧ (r 0x17) &&& 0xFFFF00FE#32 = 0)

/-- The configuration registers hold the constants of R52, for a record that meets R11 and whose constants fit (log 16). -/
def Obligations.ConfigurationRegisterMap : Prop :=
  ∀ s : State, configOk s.cfg = true → windowLen s.cfg < 2 ^ 32 → s.cfg.fsOffset2 < 2 ^ 32 →
    ∃ r : BitVec 8 → Word,
    (∀ a : BitVec 8, 0x40 ≤ a.toNat → a.toNat ≤ 0x5F → exec (.rdreg a) s = .next { s with resp := s.resp ++ [r a] }) ∧
    (r 0x40).toNat = s.cfg.fsHz * s.cfg.tSymMs / 1000 ∧
    (r 0x41).toNat = s.cfg.toneBin.t0 ∧ (r 0x42).toNat = s.cfg.toneBin.t1 ∧ (r 0x43).toNat = s.cfg.toneBin.t2 ∧
    (r 0x44).toNat = s.cfg.toneBin.t3 ∧
    (r 0x45).toInt = s.cfg.coeff.t0.toInt ∧ (r 0x46).toInt = s.cfg.coeff.t1.toInt ∧
    (r 0x47).toInt = s.cfg.coeff.t2.toInt ∧ (r 0x48).toInt = s.cfg.coeff.t3.toInt ∧
    (r 0x49).toNat = s.cfg.syncWord.toNat ∧ (r 0x4A).toNat = s.cfg.lockMin ∧ (r 0x4B).toNat = s.cfg.cooldownTicks ∧
    (r 0x4C).toNat = s.cfg.gateNum * 2 ^ 16 + s.cfg.gateDen ∧ (r 0x4D).toNat = s.cfg.confNum * 2 ^ 16 + s.cfg.confDen ∧
    (r 0x4E).toNat = s.cfg.eps ∧ (r 0x4F).toNat = s.cfg.nfShift ∧
    (r 0x51).toNat * 2 ^ 32 + (r 0x50).toNat = s.cfg.nfInit ∧
    (r 0x52).toNat = s.cfg.camNum * 2 ^ 16 + s.cfg.camDen ∧ (r 0x53).toNat = s.cfg.camK ∧
    (r 0x54).toNat = s.cfg.csTicks ∧ (r 0x55).toNat = s.cfg.bTicks.t0 ∧ (r 0x56).toNat = s.cfg.bTicks.t1 ∧
    (r 0x57).toNat = s.cfg.bTicks.t2 ∧ (r 0x58).toNat = s.cfg.bTicks.t3 ∧
    (r 0x59).toNat = s.cfg.retryMin * 2 ^ 16 + s.cfg.retryMax ∧ (r 0x5A).toNat = s.cfg.refreshTicks ∧
    (r 0x5B).toNat = s.cfg.refreshJitter ∧ (r 0x5C).toNat = s.cfg.fsOffset0 ∧ (r 0x5D).toNat = s.cfg.fsOffset1 ∧
    (r 0x5E).toNat = s.cfg.fsOffset2 ∧ (r 0x5F).toNat = 1000 / s.cfg.tSymMs

/-- ENQUEUE fills an empty slot, supersedes at equal or higher priority and restarts the attempt, and drops a lower one
(R259); SUBMIT is ENQUEUE and nothing else (R294). -/
def Obligations.EnqueueSupersedes : Prop :=
  ∀ (prio : BitVec 2) (d : DataWord),
    decodeWords [0x08000000#30 ++ prio, d.extractLsb' 32 32, d.extractLsb' 0 32] = .instr (.submit prio d) [] ∧
    ∀ s : State,
      exec (.submit prio d) s = exec (.enqueue d prio) s ∧
      (s.slot.valid = false → exec (.enqueue d prio) s = .next { s with
        slot := ⟨true, prio, d⟩
        sch := if s.sch.state = .none then { s.sch with state := .wait, cnt := 0 } else s.sch }) ∧
      (s.slot.valid = true → s.slot.prio.toNat ≤ prio.toNat → exec (.enqueue d prio) s = .next { s with
        slot := ⟨true, prio, d⟩
        sch := if s.sch.state = .none ∨ s.sch.state = .tx then s.sch else { s.sch with state := .wait, cnt := 0 } }) ∧
      (s.slot.valid = true → prio.toNat < s.slot.prio.toNat → exec (.enqueue d prio) s = .next s)

/-- ACTIVATE stores the template and starts the fast start (R270, R295); DEACTIVATE clears `act.active` and nothing else
(R271, R296). -/
def Obligations.ActivationCommands : Prop :=
  decodeWords [0x22000000#32] = .instr .deactivate [] ∧
  (∀ s : State, exec .deactivate s = .next { s with act := { s.act with active := false } }) ∧
  ∀ (prio : BitVec 2) (d : DataWord),
    decodeWords [0x08400000#30 ++ prio, d.extractLsb' 32 32, d.extractLsb' 0 32] = .instr (.activate prio d) [] ∧
    ∀ s : State, ∃ timer : BitVec 16,
      exec (.activate prio d) s =
        .next { s with act := { active := true, prio := prio, tmpl := d, gen := 0, timer := timer } } ∧
      (configOk s.cfg = true → timer.toNat = s.cfg.fsOffset0)

/-- POPF answers the record and clears `out.valid`, or answers two zero words (R297). -/
def Obligations.PopfDeliversOnce : Prop :=
  decodeWords [0x30000000#32] = .instr .popf [] ∧
  ∀ s : State,
    (s.out.valid = true → exec .popf s = .next { s with
      out := { s.out with valid := false }
      resp := s.resp ++ [1#1 ++ 0b00000#5 ++ s.out.priority ++ s.out.deviceId,
        s.out.reason ++ s.out.ttl ++ s.out.seq ++ 0x00#8] }) ∧
    (s.out.valid = false → exec .popf s = .next { s with resp := s.resp ++ [0, 0] })

/-- QINH answers `now < led.inhibitUntil` (R298) and QLAST the provenance (R299), a time that fits the word (log 16);
neither changes anything. -/
def Obligations.LedgerQueries : Prop :=
  decodeWords [0x31000000#32] = .instr .qinh [] ∧ decodeWords [0x32000000#32] = .instr .qlast [] ∧
  ∀ s : State,
    exec .qinh s =
      .next { s with resp := s.resp ++ [if s.now < s.led.inhibitUntil then 1#32 else 0#32] } ∧
    ∃ w0 w1 w2 : Word, exec .qlast s = .next { s with resp := s.resp ++ [w0, w1, w2] } ∧
      w0.getLsbD 31 = s.led.valid ∧ w0.extractLsb' 0 24 = s.led.lastInhibitor ∧ w0.extractLsb' 24 7 = 0 ∧
      w1.toNat = s.led.lastReason.toNat ∧ (s.led.lastSeen < 2 ^ 32 → w2.toNat = s.led.lastSeen)

/-- CLRF clears the two sticky flags (R300); an illegal word sets `st.cmd_err` and nothing else (R301). -/
def Obligations.StickyFlagCommands : Prop :=
  decodeWords [0x33000000#32] = .instr .clrf [] ∧
  (∀ s : State, exec .clrf s = .next { s with st := ⟨false, false⟩ }) ∧
  ∀ w : Word, reservedFirstWord w = true →
    (∀ rest : List PortEvent, ∀ sync, decodeStream sync [] (.word w :: rest) = some (.illegal w, rest)) ∧
    ∀ s : State, exec (.illegal w) s = .next { s with
      st := { s.st with cmdErr := true }, events := s.events ++ [(s.now, .cmd)] }

/-- No command but SRESET can touch the analyzer, the decision, the noise floor, the monitor, the receiver, the ledger,
the transmitter, the clock, the starvation counter or a field of the record (R303). -/
def Obligations.CommandsCannotInject : Prop :=
  ∀ (i : Instr) (s : State), isCommand i = true → i ≠ .sreset →
    ∃ t, exec i s = .next t ∧ t = { s with
      slot := t.slot
      sch := { t.sch with starve := s.sch.starve }
      act := t.act
      out := { s.out with valid := t.out.valid }
      st := t.st
      resp := t.resp
      events := t.events } ∧
      (t.slot.valid = false → s.slot.valid = false) ∧ (t.out.valid = true → s.out.valid = true)

/-! ### Analyzer -/

/-- GOERTZEL (R152): the registers end at the last two values of the integer recurrence over the samples, read as W_SAMPLE
bits and wrapped to W_ACC, and the energy returned is `raw` clamped to W_E bits (log 2 for the widths). The returned value is left in `ret`
(log 8). -/
def Obligations.GoertzelRecurrence : Prop :=
  ∀ (t : Tone) (s : State), ∃ (u : State) (f : Nat → Int),
    f 0 = 0 ∧ f 1 = 0 ∧
    (∀ n x, s.win[n]? = some x → memRead s n = x.bmod (2 ^ s.cfg.wSample)) ∧
    (∀ n, n < windowLen s.cfg →
      f (n + 2) = (memRead s n + (s.cfg.coeff.get t).toInt * f (n + 1) / 2 ^ 14 - f n).bmod (2 ^ s.cfg.wAcc)) ∧
    exec (.goertzel t) s = .next u ∧
    u = { s with an := { s.an with s1 := s.an.s1.set t (u.an.s1.get t), s2 := s.an.s2.set t (u.an.s2.get t) },
                 ret := u.ret } ∧
    u.an.s1.get t = f (windowLen s.cfg + 1) ∧ u.an.s2.get t = f (windowLen s.cfg) ∧
    (u.ret : Int) = min (max 0
      (f (windowLen s.cfg + 1) ^ 2 + f (windowLen s.cfg) ^ 2 -
        (s.cfg.coeff.get t).toInt * f (windowLen s.cfg + 1) * f (windowLen s.cfg) / 2 ^ 14)) (2 ^ s.cfg.wE - 1)

/-- ANALYZE (R153): each energy and each pair of registers is what GOERTZEL gives for that tone, the total is the exact sum
of the energies where its 64 bits hold it (W_E at most 62: R23), and nothing else changes. -/
def Obligations.AnalyzeRunsFourGoertzels : Prop :=
  ∀ s : State, ∃ u, exec .analyze s = .next u ∧ u = { s with an := u.an } ∧
    (s.cfg.wE ≤ 62 → u.an.total.toNat = u.an.energy.t0 + u.an.energy.t1 + u.an.energy.t2 + u.an.energy.t3) ∧
    ∀ t : Tone, ∃ g, exec (.goertzel t) s = .next g ∧ u.an.energy.get t = g.ret ∧
      u.an.s1.get t = g.an.s1.get t ∧ u.an.s2.get t = g.an.s2.get t

/-- A window of zeros has energy 0 at every tone (R156 (a)), whatever the coefficients. -/
def Obligations.SilentWindowHasNoEnergy : Prop :=
  ∀ s : State, (∀ n, n < windowLen s.cfg → memRead s n = 0) →
    exec .analyze s = .next { s with an := ⟨⟨0, 0, 0, 0⟩, ⟨0, 0, 0, 0⟩, ⟨0, 0, 0, 0⟩, 0⟩ }

/-! ### Decider, monitor, noise floor -/

/-- DECIDE (R166, R167, R168): the lowest tone of largest energy wins if it passes the gate and the confidence test
against the largest of the other three; an unobserved window is invalid and raises nothing. -/
def Obligations.DecideWindow : Prop :=
  ∀ s : State,
    exec (.decideSym false) s = .next { s with sd := ⟨false, 0⟩ } ∧
    (∃ t, exec (.decideSym true) s = .next t) ∧
    ∀ m second : Tone,
      (∀ u : Tone, s.an.energy.get u ≤ s.an.energy.get m) → (∀ u : Tone, u.toNat < m.toNat → s.an.energy.get u < s.an.energy.get m) →
      second ≠ m → (∀ u : Tone, u ≠ m → s.an.energy.get u ≤ s.an.energy.get second) →
      exec (.decideSym true) s =
        if s.an.energy.get m * s.cfg.gateDen ≥ noiseFloor s * s.cfg.gateNum ∧
            s.an.energy.get m * s.cfg.confDen ≥ s.cfg.confNum * (s.an.energy.get second + s.cfg.eps)
        then .next { s with sd := ⟨true, m⟩ }
        else .next { s with sd := ⟨false, 0⟩, events := s.events ++ [(s.now, .reject)] }

/-- MONITOR (R176): a window that contradicts the flag counts, the CAM_K-th flips it, any other clears the count; so of
consecutive contradicting windows the CAM_K-th flips the flag and none before it does. -/
def Obligations.MonitorDebouncesFlag : Prop :=
  ∀ s : State, s.cfg.camK ≤ 255 →
    (∃ t, exec .monitor s = .next t ∧ t = { s with cam := t.cam } ∧
      (decide (s.an.total.toNat * s.cfg.camDen > noiseFloor s * s.cfg.camNum) = s.cam.busy →
        t.cam = ⟨s.cam.busy, 0⟩) ∧
      (decide (s.an.total.toNat * s.cfg.camDen > noiseFloor s * s.cfg.camNum) ≠ s.cam.busy →
        (s.cfg.camK ≤ s.cam.cnt.toNat + 1 → t.cam = ⟨!s.cam.busy, 0⟩) ∧
        (s.cam.cnt.toNat + 1 < s.cfg.camK → t.cam.busy = s.cam.busy ∧ t.cam.cnt.toNat = s.cam.cnt.toNat + 1))) ∧
    ∀ n : Nat, 1 ≤ s.cfg.camK → s.cam.cnt = 0 →
      decide (s.an.total.toNat * s.cfg.camDen > noiseFloor s * s.cfg.camNum) ≠ s.cam.busy →
      (n < s.cfg.camK →
        runAll (List.replicate n .monitor) s = .next { s with cam := ⟨s.cam.busy, BitVec.ofNat 8 n⟩ }) ∧
      (n = s.cfg.camK → runAll (List.replicate n .monitor) s = .next { s with cam := ⟨!s.cam.busy, 0⟩ })

/-- NFUPDATE (R172): the accumulator moves only while the channel is idle and no frame is mid-decode, and it stays within
(2^64 − 1) × 2^NF_SHIFT; the floor moves toward the total, never steps past it and rests exactly there. -/
def Obligations.NoiseFloorFollowsTotal : Prop :=
  ∀ s : State, noiseFloorFits s →
    (s.cam.busy = true ∨ s.rx.state = .sync ∨ s.rx.state = .payload → exec .nfupdate s = .next s) ∧
    (s.cam.busy = false → s.rx.state = .idle ∨ s.rx.state = .cooldown → s.cfg.nfShift ≤ 16 →
      ∃ t, exec .nfupdate s = .next t ∧ t = { s with nfAcc := t.nfAcc } ∧ noiseFloorFits t ∧
        t.nfAcc.toNat = s.nfAcc.toNat - s.nfAcc.toNat / 2 ^ s.cfg.nfShift + s.an.total.toNat ∧
        (noiseFloor s ≤ s.an.total.toNat → noiseFloor s ≤ noiseFloor t ∧ noiseFloor t ≤ s.an.total.toNat) ∧
        (s.an.total.toNat ≤ noiseFloor s → s.an.total.toNat ≤ noiseFloor t ∧ noiseFloor t ≤ noiseFloor s) ∧
        (t.nfAcc = s.nfAcc ↔ noiseFloor s = s.an.total.toNat))

/-! ### Receiver and ledger -/

/-- RXSTEP (R192): the history shifts by one place in every state, then exactly the arm of the state runs. It completes
under the premise of 93 U1. -/
def Obligations.RxstepShiftsThenRunsOneArm : Prop :=
  ∀ (v : Bool) (t : Tone) (s : State),
    (clockAhead 0 s → ∃ u, exec (.rxstep v t) s = .next u) ∧
    ∃ h : Vector Symbol 20, (∀ i : Fin 19, h[i.val] = s.rx.hist[i.val + 1]) ∧ h[19] = ⟨v, t⟩ ∧
      (s.rx.state = .idle → exec (.rxstep v t) s = exec .rxIdle { s with rx := { s.rx with hist := h } }) ∧
      (s.rx.state = .sync → exec (.rxstep v t) s = exec (.rxSync v t) { s with rx := { s.rx with hist := h } }) ∧
      (s.rx.state = .payload →
        exec (.rxstep v t) s = exec (.rxPayload v t) { s with rx := { s.rx with hist := h } }) ∧
      (s.rx.state = .cooldown → exec (.rxstep v t) s = exec .rxCooldown { s with rx := { s.rx with hist := h } })

/-- RX.IDLE (R193): the score is the number of places i that are valid with tone i mod 4; from LOCK_MIN on the receiver
locks. -/
def Obligations.RxIdleLocksOnScore : Prop :=
  ∀ (s : State) (score : Nat),
    score = ((List.finRange 20).filter fun i : Fin 20 =>
      (s.rx.hist[i.val]).valid && (s.rx.hist[i.val]).tone.toNat == i.val % 4).length →
    (s.cfg.lockMin ≤ score → exec .rxIdle s = .next { s with
      rx := { s.rx with score := BitVec.ofNat 5 score, state := .sync, cnt := 0 }
      events := s.events ++ [(s.now, .lock)] }) ∧
    (score < s.cfg.lockMin →
      exec .rxIdle s = .next { s with rx := { s.rx with score := BitVec.ofNat 5 score } })

/-- RX.SYNC (R195): the first wrong or invalid symbol aborts, the eighth right one opens the payload. -/
def Obligations.RxSyncComparesOnArrival : Prop :=
  ∀ (v : Bool) (t : Tone) (s : State),
    (∃ u, exec (.rxSync v t) s = .next u) ∧
    (v = false → exec (.rxSync v t) s = .next { s with
      rx := { s.rx with state := .idle, cnt := 0 }, events := s.events ++ [(s.now, .syncAbort)] }) ∧
    (v = true → s.rx.cnt.toNat ≤ 7 →
      (t ≠ toneOf (s.cfg.syncWord.extractLsb' (14 - 2 * s.rx.cnt.toNat) 2) →
        exec (.rxSync v t) s = .next { s with
          rx := { s.rx with state := .idle, cnt := 0 }, events := s.events ++ [(s.now, .syncAbort)] }) ∧
      (t = toneOf (s.cfg.syncWord.extractLsb' (14 - 2 * s.rx.cnt.toNat) 2) →
        (s.rx.cnt.toNat = 7 →
          exec (.rxSync v t) s = .next { s with rx := { s.rx with state := .payload, cnt := 0, bits := 0 } }) ∧
        (s.rx.cnt.toNat < 7 →
          exec (.rxSync v t) s = .next { s with rx := { s.rx with cnt := s.rx.cnt + 1 } })))

/-- RX.PAYLOAD (R197): an invalid symbol tears the frame, a valid one shifts its dibit in, the fortieth is checked. -/
def Obligations.RxPayloadCollectsDibits : Prop :=
  ∀ (v : Bool) (t : Tone) (s : State),
    (clockAhead 0 s → ∃ u, exec (.rxPayload v t) s = .next u) ∧
    (v = false → exec (.rxPayload v t) s = .next { s with
      rx := { s.rx with state := .idle, cnt := 0 }, events := s.events ++ [(s.now, .torn)] }) ∧
    (v = true → ∃ b : BitVec 80, b.toNat = (s.rx.bits.toNat * 4 + (dibitOf t).toNat) % 2 ^ 80 ∧
      (s.rx.cnt.toNat = 39 → exec (.rxPayload v t) s = exec (.rxCheck b) { s with rx := { s.rx with bits := b } }) ∧
      (s.rx.cnt.toNat < 39 →
        exec (.rxPayload v t) s = .next { s with rx := { s.rx with bits := b, cnt := s.rx.cnt + 1 } }))

/-- RX.CHECK (R198): a matching CRC emits the data word and enters cooldown, or IDLE where COOLDOWN_TICKS is 0; a mismatch
discards it silently. -/
def Obligations.RxCheckEmitsOnMatch : Prop :=
  ∀ (b : BitVec 80) (s : State),
    (clockAhead 0 s → ∃ u, exec (.rxCheck b) s = .next u) ∧
    (crc16 (dataBytes (b.extractLsb' 16 64)) ≠ b.extractLsb' 0 16 → exec (.rxCheck b) s = .next { s with
      rx := { s.rx with state := .idle, cnt := 0 }, events := s.events ++ [(s.now, .crc)] }) ∧
    (crc16 (dataBytes (b.extractLsb' 16 64)) = b.extractLsb' 0 16 →
      ∀ u, exec (.emit (b.extractLsb' 16 64)) s = .next u → s.cfg.cooldownTicks ≤ 63 →
        ∃ t, exec (.rxCheck b) s = .next t ∧
          t = { u with rx := { u.rx with state := t.rx.state, cnt := t.rx.cnt } } ∧
          t.rx.cnt.toNat = s.cfg.cooldownTicks ∧
          t.rx.state = if s.cfg.cooldownTicks = 0 then .idle else .cooldown)

/-- EMIT (R200): the record, the overrun flag, then the ledger, then E_FRAME. -/
def Obligations.EmitDeliversRecord : Prop :=
  ∀ (d : DataWord) (s : State), clockAhead 0 s →
    ∃ u, exec (.ledger (d.extractLsb' 24 24) (d.extractLsb' 16 8) (d.extractLsb' 8 8))
        { s with
          out := ⟨true, d.extractLsb' 24 24, d.extractLsb' 16 8, d.extractLsb' 54 2, d.extractLsb' 8 8,
            d.extractLsb' 0 8⟩
          st := { s.st with overrun := s.st.overrun || s.out.valid }
          events := if s.out.valid then s.events ++ [(s.now, .overrun)] else s.events } = .next u ∧
      exec (.emit d) s = .next { u with events := u.events ++ [(s.now, .frame)] }

/-- LEDGER (R231): the deadline is merged with `max`, the provenance overwritten; refused only where the deadline does not
fit W_NOW bits (93 U1, log 12). -/
def Obligations.LedgerMergesDeadline : Prop :=
  ∀ (id : BitVec 24) (reason ttl : BitVec 8) (s : State),
    (s.now + ttl.toNat * (1000 / s.cfg.tSymMs) < 2 ^ s.cfg.wNow →
      exec (.ledger id reason ttl) s = .next { s with led :=
        { valid := true
          inhibitUntil := max s.led.inhibitUntil (s.now + ttl.toNat * (1000 / s.cfg.tSymMs))
          lastInhibitor := id
          lastReason := reason
          lastSeen := s.now } }) ∧
    (2 ^ s.cfg.wNow ≤ s.now + ttl.toNat * (1000 / s.cfg.tSymMs) →
      exec (.ledger id reason ttl) s = .refused .ledgerOverflow)

/-- The source's TTL scenario in ticks (R236): a frame with ttl T at `now` = n inhibits for the T × TICKS_PER_SEC ticks from n
on, and a second one k ticks later extends that by k. -/
def Obligations.TtlScenario : Prop :=
  ∀ (s : State) (id1 id2 : BitVec 24) (r1 r2 ttl : BitVec 8) (k : Nat) (t u : State),
    s.led.inhibitUntil ≤ s.now → s.now + k + ttl.toNat * ticksPerSec s.cfg < 2 ^ s.cfg.wNow →
    exec (.ledger id1 r1 ttl) s = .next t →
    exec (.ledger id2 r2 ttl) { t with now := t.now + k } = .next u →
    ∀ j : Nat,
      (isInhibited { t with now := t.now + j } = decide (j < ttl.toNat * ticksPerSec s.cfg)) ∧
      (isInhibited { u with now := s.now + j } = decide (j < k + ttl.toNat * ticksPerSec s.cfg))

/-- RX.COOLDOWN (R199): it counts down and ends in IDLE; nothing is scored. So cooldown lasts as many ticks as it was set
to, whatever symbols arrive, only the history shifting, and delivers nothing. -/
def Obligations.RxCooldownLastsItsTicks : Prop :=
  ∀ s : State,
    (s.rx.cnt.toNat ≤ 1 → exec .rxCooldown s = .next { s with rx := { s.rx with state := .idle, cnt := 0 } }) ∧
    (1 < s.rx.cnt.toNat → exec .rxCooldown s = .next { s with rx := { s.rx with cnt := s.rx.cnt - 1 } }) ∧
    ∀ syms : List (Bool × Tone), s.rx.state = .cooldown → 1 ≤ s.rx.cnt.toNat → syms.length ≤ s.rx.cnt.toNat →
      ∃ t, runAll (syms.map fun x => .rxstep x.1 x.2) s = .next t ∧ t = { s with rx := t.rx } ∧
        t.rx.score = s.rx.score ∧ t.rx.bits = s.rx.bits ∧
        t.rx.hist.toList =
          (s.rx.hist.toList ++ syms.map fun x => (⟨x.1, x.2⟩ : Symbol)).drop syms.length ∧
        t.rx.cnt.toNat + syms.length = s.rx.cnt.toNat ∧
        t.rx.state = if syms.length = s.rx.cnt.toNat then .idle else .cooldown

/-! ### CRC -/

/-- CRC16 is its byte-wise form (R221), on any bytes, and running it over the bytes and their CRC gives 0 (R224 (a)); the
result is left in `ret` (log 8). -/
def Obligations.CrcByteWiseFormAndResidue : Prop :=
  ∀ (bytes : List Byte) (s : State),
    exec (.crc16 bytes) s = .next { s with ret := (bytes.foldl (fun (crc : BitVec 16) (b : Byte) =>
      Nat.iterate (fun c : BitVec 16 => if c.msb then (c <<< 1) ^^^ 0x1021#16 else c <<< 1) 8
        (crc ^^^ (b.zeroExtend 16 <<< 8))) 0xFFFF#16).toNat } ∧
    exec (.crc16 (bytes ++ [(crc16 bytes).extractLsb' 8 8, (crc16 bytes).extractLsb' 0 8])) s = .next { s with ret := 0 }

/-- One or two flipped bits among the 80 of a payload that would have been accepted make it be discarded (R224 (b), (c)). -/
def Obligations.CrcCatchesOneAndTwoBitErrors : Prop :=
  ∀ (b : BitVec 80) (i j : Nat) (s : State), i < 80 → j < 80 →
    crc16 (dataBytes (b.extractLsb' 16 64)) = b.extractLsb' 0 16 →
    ∀ e : BitVec 80, (e = BitVec.twoPow 80 i ∨ i ≠ j ∧ e = BitVec.twoPow 80 i ||| BitVec.twoPow 80 j) →
      exec (.rxCheck (b ^^^ e)) s = .next { s with
        rx := { s.rx with state := .idle, cnt := 0 }, events := s.events ++ [(s.now, .crc)] }

/-! ### Symbols and frames on the wire -/

/-- A symbol on the wire is one tick whose decision is that symbol, or the invalid one while TED transmits (log 10): the
clock, the decision, then RXSTEP, ACTSTEP, SCHSTEP and TXSTEP; it completes under the premise of 93 U1. -/
def Obligations.ToneIsOneSymbolTick : Prop :=
  ∀ (k : Tone) (rnd : Word) (s : State),
    (clockAhead 1 s → ∃ t, exec (toneInstr k rnd) s = .next t) ∧
    (s.now + 1 < 2 ^ s.cfg.wNow → ∀ x : Symbol, x = (if s.tx.active then ⟨false, 0⟩ else ⟨true, k⟩) →
      exec (toneInstr k rnd) s =
        runAll [.rxstep x.valid x.tone, .actstep (rnd.extractLsb' 16 16), .schstep (rnd.extractLsb' 0 16), .txstep]
          { s with now := s.now + 1, sd := x })

/-- A frame on the wire takes 48 symbol ticks (log 11), and one with a right CRC that meets a receiver just locked is
delivered unchanged, updates the ledger and starts the cooldown (R108). -/
def Obligations.FrameAfterLockIsDelivered : Prop :=
  ∀ (f : WireFrame) (rnds : List Word) (s : State), clockAhead 48 s →
    ∃ t, exec (.frame f rnds) s = .next t ∧ t.now = s.now + 48 ∧
      t.an = s.an ∧ t.cam = s.cam ∧ t.nfAcc = s.nfAcc ∧ t.win = s.win ∧ t.cfg = s.cfg ∧
      (s.rx.state = .sync → s.rx.cnt = 0 → transmitQuiet s → s.cfg.cooldownTicks ≤ 63 →
        f.crc16 = crc16 (dataBytes
          (f.version ++ f.msgType ++ f.priority ++ f.flags ++ f.deviceId ++ f.reason ++ f.ttl ++ f.seq)) →
        t.out = ⟨true, f.deviceId, f.reason, f.priority, f.ttl, f.seq⟩ ∧
        t.led.valid = true ∧ t.led.lastInhibitor = f.deviceId ∧ t.led.lastReason = f.reason ∧ t.led.lastSeen = t.now ∧
        t.led.inhibitUntil =
          max s.led.inhibitUntil (s.now + 48 + f.ttl.toNat * ticksPerSec s.cfg) ∧
        t.rx.cnt.toNat = s.cfg.cooldownTicks ∧
        t.rx.state = if s.cfg.cooldownTicks = 0 then .idle else .cooldown)

/-- The round trip (R205): a transmission of any data word, heard by a receiver in IDLE after a quiet channel, is delivered
with its five fields unchanged on its last symbol, for every configuration record that meets R11. -/
def Obligations.TransmissionRoundTrip : Prop :=
  ∀ (d : DataWord) (s : State), configOk s.cfg = true → s.rx.state = .idle →
    (∀ x ∈ s.rx.hist.toList, x.valid = false) → transmitQuiet s → clockAhead 68 s →
    ∃ t, runAll (transmission s.cfg d) s = .next t ∧
      t.out = ⟨true, d.extractLsb' 24 24, d.extractLsb' 16 8, d.extractLsb' 54 2, d.extractLsb' 8 8,
        d.extractLsb' 0 8⟩ ∧
      t.led.lastInhibitor = d.extractLsb' 24 24 ∧ t.led.lastSeen = s.now + 68 ∧
      t.rx.cnt.toNat = s.cfg.cooldownTicks ∧
      t.rx.state = if s.cfg.cooldownTicks = 0 then .idle else .cooldown

/-! ### The tick -/

/-- TICK on an observed window (R140): the clock, then ANALYZE, DECIDE, MONITOR, RXSTEP on the decision, NFUPDATE, ACTSTEP,
SCHSTEP and TXSTEP, each on what the earlier ones left. -/
def Obligations.TickObservesWindow : Prop :=
  ∀ (win : List Sample) (rnd : Word) (s : State), win.length = windowLen s.cfg → s.tx.active = false →
    (clockAhead 1 s → ∃ t, exec (.tickWin win rnd) s = .next t) ∧
    (s.now + 1 < 2 ^ s.cfg.wNow →
      ∃ u, runAll [.analyze, .decideSym true, .monitor] { s with win := win, now := s.now + 1 } = .next u ∧
        exec (.tickWin win rnd) s =
          runAll [.rxstep u.sd.valid u.sd.tone, .nfupdate, .actstep (rnd.extractLsb' 16 16),
            .schstep (rnd.extractLsb' 0 16), .txstep] u)

/-- TICK without an observed window (R141, R321; 20_memory.md R72 for a window of the wrong length): the symbol is invalid, the
energies, the monitor and the noise floor hold, and the receiver, the scheduler and the transmitter go on. E_GAP marks
a window that is missing, not one that is blanked. -/
def Obligations.TickWithoutWindow : Prop :=
  ∀ (win : List Sample) (rnd : Word) (s : State),
    (clockAhead 1 s → ∃ t, exec (.tickMiss rnd) s = .next t ∧ t.an = s.an ∧ t.cam = s.cam ∧ t.nfAcc = s.nfAcc) ∧
    (s.now + 1 < 2 ^ s.cfg.wNow →
      exec (.tickMiss rnd) s =
        runAll [.decideSym false, .rxstep false 0, .actstep (rnd.extractLsb' 16 16), .schstep (rnd.extractLsb' 0 16),
          .txstep] { s with win := [], now := s.now + 1, events := s.events ++ [(s.now + 1, .gap)] } ∧
      (win.length ≠ windowLen s.cfg → exec (.tickWin win rnd) s =
        runAll [.decideSym false, .rxstep false 0, .actstep (rnd.extractLsb' 16 16), .schstep (rnd.extractLsb' 0 16),
          .txstep] { s with win := win, now := s.now + 1, events := s.events ++ [(s.now + 1, .gap)] }) ∧
      (win.length = windowLen s.cfg → s.tx.active = true → exec (.tickWin win rnd) s =
        runAll [.decideSym false, .rxstep false 0, .actstep (rnd.extractLsb' 16 16), .schstep (rnd.extractLsb' 0 16),
          .txstep] { s with win := win, now := s.now + 1 }))

/-- Where `now` would reach 2^W_NOW no tick form has a next state (93 U1: "a model refuses traces that long", R369;
log 12). -/
def Obligations.ClockWrapIsRefused : Prop :=
  ∀ (win : List Sample) (rnd : Word) (k : Tone) (s : State), s.now + 1 = 2 ^ s.cfg.wNow →
    exec (.tickWin win rnd) s = .refused .clockOverflow ∧ exec (.tickMiss rnd) s = .refused .clockOverflow ∧
    exec (toneInstr k rnd) s = .refused .clockOverflow

/-! ### Scheduler -/

/-- SCHSTEP completes and runs exactly the arm of its state (R260, R266). -/
def Obligations.SchstepRunsOneArm : Prop :=
  ∀ (rs : BitVec 16) (s : State),
    (∃ t, exec (.schstep rs) s = .next t) ∧
    (s.sch.state = .none ∨ s.sch.state = .tx → exec (.schstep rs) s = .next s) ∧
    (s.sch.state = .wait → exec (.schstep rs) s = exec (.schWait rs) s) ∧
    (s.sch.state = .retry → exec (.schstep rs) s = exec .schRetry s) ∧
    (s.sch.state = .backoff →
      (s.cam.busy = true → exec (.schstep rs) s = exec (.schAbort rs) s) ∧
      (s.cam.busy = false → s.sch.cnt.toNat = 0 → exec (.schstep rs) s = exec .schHandoff s) ∧
      (s.cam.busy = false → 0 < s.sch.cnt.toNat → exec (.schstep rs) s = exec .schBackoff s))

/-- SCH.WAIT (R261): a busy tick restarts the wait, the CS_TICKS-th idle one draws the backoff by `slot.prio`. -/
def Obligations.SchWaitSensesThenDraws : Prop :=
  ∀ (rs : BitVec 16) (s : State), configOk s.cfg = true → s.sch.state = .wait →
    ∃ t, exec (.schWait rs) s = .next t ∧ t = { s with sch := { s.sch with state := t.sch.state, cnt := t.sch.cnt } } ∧
      (s.cam.busy = true → t.sch.state = .wait ∧ t.sch.cnt = 0) ∧
      (s.cam.busy = false → s.cfg.csTicks ≤ s.sch.cnt.toNat + 1 → t.sch.state = .backoff ∧
        t.sch.cnt.toNat = rs.toNat % (s.cfg.bTicks.get s.slot.prio + 1)) ∧
      (s.cam.busy = false → s.sch.cnt.toNat + 1 < s.cfg.csTicks → t.sch.state = .wait ∧
        t.sch.cnt.toNat = s.sch.cnt.toNat + 1)

/-- SCH.ABORT (R263): the attempt is counted, saturating, and put off by a drawn delay; the request stays in the slot. -/
def Obligations.SchAbortDefers : Prop :=
  ∀ (rs : BitVec 16) (s : State), configOk s.cfg = true →
    ∃ t, exec (.schAbort rs) s = .next t ∧
      t = { s with sch := t.sch, events := s.events ++ [(s.now, .starve)] } ∧ t.sch.state = .retry ∧
      t.sch.starve.toNat = min (s.sch.starve.toNat + 1) 0xFFFF ∧
      t.sch.cnt.toNat = s.cfg.retryMin + rs.toNat % (s.cfg.retryMax - s.cfg.retryMin + 1)

/-- SCH.HANDOFF (R264): the frame is SYNC_WORD, the data word and its CRC; the slot is emptied but keeps its values. -/
def Obligations.SchHandoffStartsTransmission : Prop :=
  ∀ s : State, exec .schHandoff s = .next { s with
    tx := { s.tx with
      active := true, idx := 0, frame := s.cfg.syncWord ++ s.slot.data ++ crc16 (dataBytes s.slot.data) }
    slot := { s.slot with valid := false }
    sch := { s.sch with state := .tx, cnt := 0 }
    events := s.events ++ [(s.now, .txStart)] }

/-- SCH.RETRY (R265) waits out the delay without looking at the channel. -/
def Obligations.SchRetryWaitsOut : Prop :=
  ∀ s : State, s.sch.state = .retry →
    (s.sch.cnt.toNat = 0 → exec .schRetry s = .next { s with sch := { s.sch with state := .wait } }) ∧
    (0 < s.sch.cnt.toNat → exec .schRetry s = .next { s with sch := { s.sch with cnt := s.sch.cnt - 1 } })

/-- SCH.BACKOFF (R262): one tick counts one down; a backoff of d spends d idle ticks counting and hands off on the next. -/
def Obligations.BackoffRunsDown : Prop :=
  (∀ s : State, s.cam.busy = false → 0 < s.sch.cnt.toNat →
    exec .schBackoff s = .next { s with sch := { s.sch with cnt := s.sch.cnt - 1 } }) ∧
  ∀ (s : State) (rs : List (BitVec 16)), s.sch.state = .backoff → s.cam.busy = false → rs.length ≤ s.sch.cnt.toNat →
    ∃ t, runAll (rs.map .schstep) s = .next t ∧ t = { s with sch := { s.sch with cnt := t.sch.cnt } } ∧
      t.sch.cnt.toNat + rs.length = s.sch.cnt.toNat ∧
      (rs.length = s.sch.cnt.toNat → ∀ r, exec (.schstep r) t = exec .schHandoff t)

/-- An undisturbed attempt (R267), at the scheduler: CS_TICKS + d + 1 steps after the request was enqueued, d the draw, it
hands off, and not before. -/
def Obligations.UndisturbedAttemptHandsOff : Prop :=
  ∀ (s : State) (d : DataWord) (prio : BitVec 2) (r : BitVec 16) (n : Nat), configOk s.cfg = true →
    s.sch.state = .none → s.slot.valid = false → s.tx.active = false → s.cam.busy = false →
    n ≤ s.cfg.csTicks + draw r 0 (s.cfg.bTicks.get prio) + 1 →
    ∃ t, runAll (.enqueue d prio :: List.replicate n (.schstep r)) s = .next t ∧
      (t.tx.active = true ↔ n = s.cfg.csTicks + draw r 0 (s.cfg.bTicks.get prio) + 1) ∧
      (t.tx.active = true → t.tx.frame = encodeData s.cfg d ∧ t.sch.state = .tx ∧ t.slot.valid = false)

/-- ACTSTEP (R272): a due request copies the template, only `seq` advances, and the timer is set for the next one (log 15 for
a gap that does not fit). -/
def Obligations.ActstepGeneratesRequests : Prop :=
  ∀ (rj : BitVec 16) (s : State),
    (s.act.active = false → exec (.actstep rj) s = .next s) ∧
    (s.act.active = true → 0 < s.act.timer.toNat →
      exec (.actstep rj) s = .next { s with act := { s.act with timer := s.act.timer - 1 } }) ∧
    (s.act.active = true → s.act.timer.toNat = 0 → ∃ (u : State) (a : Activation) (gap : Nat),
      exec (.enqueue s.act.tmpl s.act.prio) s = .next u ∧
      exec (.actstep rj) s = .next { u with act := a, events := u.events ++ [(s.now, .gen)] } ∧
      a.active = true ∧ a.prio = s.act.prio ∧ a.tmpl.extractLsb' 8 56 = s.act.tmpl.extractLsb' 8 56 ∧
      (a.tmpl.extractLsb' 0 8).toNat = ((s.act.tmpl.extractLsb' 0 8).toNat + 1) % 256 ∧
      a.gen.toNat = min (s.act.gen.toNat + 1) 3 ∧
      gap = (if a.gen.toNat = 1 then s.cfg.fsOffset1 - s.cfg.fsOffset0
        else if a.gen.toNat = 2 then s.cfg.fsOffset2 - s.cfg.fsOffset1
        else s.cfg.refreshTicks + rj.toNat % (s.cfg.refreshJitter + 1)) ∧
      (gap - 1 < 2 ^ 16 → a.timer.toNat = gap - 1))

/-! ### Transmitter -/

/-- ENCODE (R241): sync word, data word, CRC; the result is left in `ret` (log 8). -/
def Obligations.EncodeLaysOutFrame : Prop :=
  ∀ (d : DataWord) (s : State), ∃ f : FrameBits, exec (.encodeFrame d) s = .next { s with ret := f.toNat } ∧
    f.extractLsb' 80 16 = s.cfg.syncWord ∧ f.extractLsb' 16 64 = d ∧
    f.extractLsb' 0 16 = crc16 [d.extractLsb' 56 8, d.extractLsb' 48 8, d.extractLsb' 40 8, d.extractLsb' 32 8,
      d.extractLsb' 24 8, d.extractLsb' 16 8, d.extractLsb' 8 8, d.extractLsb' 0 8]

/-- TXSTEP (R244) and TXDONE (R245). -/
def Obligations.TxstepEmitsOrFinishes : Prop :=
  ∀ s : State,
    (s.tx.active = false → exec .txstep s = .next { s with tx := { s.tx with en := false, tone := 0 } }) ∧
    (s.tx.active = true → s.tx.idx.toNat ≤ 67 → ∃ tone : Tone,
      exec .txstep s = .next { s with tx := { s.tx with en := true, tone := tone, idx := s.tx.idx + 1 } } ∧
      (s.tx.idx.toNat < 20 → tone.toNat = s.tx.idx.toNat % 4) ∧
      (20 ≤ s.tx.idx.toNat → tone = toneOf (s.tx.frame.extractLsb' (94 - 2 * (s.tx.idx.toNat - 20)) 2))) ∧
    (s.tx.active = true → s.tx.idx.toNat = 68 → exec .txstep s = exec .txdone s) ∧
    (s.cfg.cooldownTicks ≤ 63 → ∃ t, exec .txdone s = .next t ∧
      t = { s with
        tx := { s.tx with active := false, idx := 0, en := false, tone := 0 }
        rx := { s.rx with state := t.rx.state, cnt := t.rx.cnt }
        sch := { s.sch with state := if s.slot.valid then .wait else .none, cnt := 0 }
        events := s.events ++ [(s.now, .txDone)] } ∧
      t.rx.cnt.toNat = s.cfg.cooldownTicks ∧ t.rx.state = if s.cfg.cooldownTicks = 0 then .idle else .cooldown)

/-- A transmission outputs its 68 symbols in order, one a step, then falls silent (R247). -/
def Obligations.TransmissionLasts68Steps : Prop :=
  ∀ (s : State) (k : Nat), s.tx.active = true → s.tx.idx = 0 →
    (k < 68 → ∃ t, runAll (List.replicate (k + 1) .txstep) s = .next t ∧ t = { s with tx := t.tx } ∧
      t.tx = { s.tx with en := true, tone := txSym s.tx.frame k, idx := BitVec.ofNat 7 (k + 1) }) ∧
    ∃ t, runAll (List.replicate 69 .txstep) s = .next t ∧ t.tx.active = false ∧ t.tx.en = false ∧
      t.tx.frame = s.tx.frame ∧ t.events = s.events ++ [(s.now, .txDone)]

/-! ### The whole machine -/

/-- Every step keeps the invariant of R60 (a) to (g), and never changes the configuration record (R21). -/
def Obligations.StepKeepsInvariant : Prop :=
  ∀ s t : State, Inv s → step s = .next t → Inv t ∧ t.cfg = s.cfg

/-- Every step keeps the other ranges: the Goertzel registers, the energies and the times fit their widths (R22, R23, R30,
R43), the noise floor fits (R172), `sch.cnt` is in range (R36), the frame being sent is an encoding (R28), the command
port holds the beginning of one command (R290), the ledger is fresh until its first frame (R234), and the tone port
follows the transmitter (R247). -/
def Obligations.StepKeepsRegisterRanges : Prop :=
  ∀ s t : State, Inv s → analyzerFits s → timesFit s → noiseFloorFits s → schCntBounded s → sentFrameEncoded s →
    portHoldsPrefix s → ledgerFresh s → portFollowsTx s → step s = .next t →
    analyzerFits t ∧ timesFit t ∧ noiseFloorFits t ∧ schCntBounded t ∧ sentFrameEncoded t ∧ portHoldsPrefix t ∧
    ledgerFresh t ∧ portFollowsTx t

/-- The state after reset has every invariant (R351). -/
def Obligations.ResetHasInvariants : Prop :=
  configOk State.reset.cfg = true ∧ Inv State.reset ∧ analyzerFits State.reset ∧ timesFit State.reset ∧
  noiseFloorFits State.reset ∧ schCntBounded State.reset ∧
  sentFrameEncoded State.reset ∧ portHoldsPrefix State.reset ∧ ledgerFresh State.reset ∧ portFollowsTx State.reset

/-- No transmission starts while the channel is classified busy (R269): where a step starts one, `cam.busy` as that step
leaves it is 0. -/
def Obligations.NeverStartsWhileBusy : Prop :=
  ∀ s t : State, step s = .next t → s.tx.active = false → t.tx.active = true → t.cam.busy = false

/-- No preemption (R248): a step other than a reset leaves the frame being sent alone and does not stop it before its 68th
symbol. A FRAME event, 48 ticks in one step (log 11), is left out: it may run past the end of the transmission. -/
def Obligations.TransmissionIsNotPreempted : Prop :=
  ∀ (s t : State) (e : PortEvent) (es : List PortEvent), activeInTx s → s.input = e :: es →
    (∀ bits rnds, e ≠ .frame bits rnds) → e ≠ .rst → (∀ p, decodeEvent s.cfg.syncWord s.pend e ≠ .instr .sreset p) →
    step s = .next t → s.tx.active = true →
    t.tx.frame = s.tx.frame ∧ (s.tx.idx.toNat ≤ 67 → t.tx.active = true)

/-- `led.inhibitUntil` never decreases but by a reset (R60 (h), R235). -/
def Obligations.InhibitUntilNeverDecreases : Prop :=
  ∀ s t : State, step s = .next t → (∀ es, s.input ≠ .rst :: es) →
    (∀ e es p, s.input = e :: es → decodeEvent s.cfg.syncWord s.pend e ≠ .instr .sreset p) →
    s.led.inhibitUntil ≤ t.led.inhibitUntil

/-- The single writers of R80: over all instructions but the tick forms and SRESET, the noise floor is written only by
NFUPDATE, the busy flag only by MONITOR, the ledger only on the receiver's path to LEDGER, the slot only by the enqueue
procedure and hand-off and what calls them; and the configuration record by none. -/
def Obligations.SharedScalarsHaveOneWriter : Prop :=
  ∀ (i : Instr) (s t : State), exec i s = .next t →
    t.cfg = s.cfg ∧
    ((∀ w r, i ≠ .tickWin w r) → i ≠ .sreset → (i ≠ .nfupdate → t.nfAcc = s.nfAcc) ∧ (i ≠ .monitor → t.cam = s.cam)) ∧
    ((match i with
      | .ledger _ _ _ | .emit _ | .rxCheck _ | .rxPayload _ _ | .rxstep _ _ => False
      | .tickWin _ _ | .tickMiss _ | .frame _ _ | .tone0 _ | .tone1 _ | .tone2 _ | .tone3 _ | .sreset => False
      | _ => True) → t.led = s.led) ∧
    ((match i with
      | .submit _ _ | .enqueue _ _ | .actstep _ | .schstep _ | .schHandoff => False
      | .tickWin _ _ | .tickMiss _ | .frame _ _ | .tone0 _ | .tone1 _ | .tone2 _ | .tone3 _ | .sreset => False
      | _ => True) → t.slot = s.slot)

/-- The level outputs are these functions of the state (R41). -/
def Obligations.LevelOutputsFollowState : Prop :=
  ∀ s : State, levelBusy s = s.cam.busy ∧ levelFrameAvail s = s.out.valid ∧
    levelInhibited s = decide (s.now < s.led.inhibitUntil) ∧ levelTxEn s = s.tx.en ∧ levelTxTone s = s.tx.tone
end

