-- ==== Sys2Proof/Laws/State.lean ====
section
/-! SUPPORT. One lemma per field per update of the state, each true by definition. -/

namespace Sys2Proof.Machine

variable (s : State)

/-! ### raise -/

@[simp] theorem raise_cfg (e : Event) : (raise e s).cfg = s.cfg := rfl
@[simp] theorem raise_now (e : Event) : (raise e s).now = s.now := rfl
@[simp] theorem raise_an (e : Event) : (raise e s).an = s.an := rfl
@[simp] theorem raise_sd (e : Event) : (raise e s).sd = s.sd := rfl
@[simp] theorem raise_nfAcc (e : Event) : (raise e s).nfAcc = s.nfAcc := rfl
@[simp] theorem raise_cam (e : Event) : (raise e s).cam = s.cam := rfl
@[simp] theorem raise_rx (e : Event) : (raise e s).rx = s.rx := rfl
@[simp] theorem raise_out (e : Event) : (raise e s).out = s.out := rfl
@[simp] theorem raise_led (e : Event) : (raise e s).led = s.led := rfl
@[simp] theorem raise_slot (e : Event) : (raise e s).slot = s.slot := rfl
@[simp] theorem raise_sch (e : Event) : (raise e s).sch = s.sch := rfl
@[simp] theorem raise_act (e : Event) : (raise e s).act = s.act := rfl
@[simp] theorem raise_tx (e : Event) : (raise e s).tx = s.tx := rfl
@[simp] theorem raise_st (e : Event) : (raise e s).st = s.st := rfl
@[simp] theorem raise_win (e : Event) : (raise e s).win = s.win := rfl
@[simp] theorem raise_pend (e : Event) : (raise e s).pend = s.pend := rfl
@[simp] theorem raise_input (e : Event) : (raise e s).input = s.input := rfl
@[simp] theorem raise_resp (e : Event) : (raise e s).resp = s.resp := rfl
@[simp] theorem raise_events (e : Event) : (raise e s).events = s.events ++ [(s.now, e)] := rfl
@[simp] theorem raise_ret (e : Event) : (raise e s).ret = s.ret := rfl

/-! ### respond -/

@[simp] theorem respond_cfg (ws : List Word) : (respond ws s).cfg = s.cfg := rfl
@[simp] theorem respond_now (ws : List Word) : (respond ws s).now = s.now := rfl
@[simp] theorem respond_an (ws : List Word) : (respond ws s).an = s.an := rfl
@[simp] theorem respond_sd (ws : List Word) : (respond ws s).sd = s.sd := rfl
@[simp] theorem respond_nfAcc (ws : List Word) : (respond ws s).nfAcc = s.nfAcc := rfl
@[simp] theorem respond_cam (ws : List Word) : (respond ws s).cam = s.cam := rfl
@[simp] theorem respond_rx (ws : List Word) : (respond ws s).rx = s.rx := rfl
@[simp] theorem respond_out (ws : List Word) : (respond ws s).out = s.out := rfl
@[simp] theorem respond_led (ws : List Word) : (respond ws s).led = s.led := rfl
@[simp] theorem respond_slot (ws : List Word) : (respond ws s).slot = s.slot := rfl
@[simp] theorem respond_sch (ws : List Word) : (respond ws s).sch = s.sch := rfl
@[simp] theorem respond_act (ws : List Word) : (respond ws s).act = s.act := rfl
@[simp] theorem respond_tx (ws : List Word) : (respond ws s).tx = s.tx := rfl
@[simp] theorem respond_st (ws : List Word) : (respond ws s).st = s.st := rfl
@[simp] theorem respond_win (ws : List Word) : (respond ws s).win = s.win := rfl
@[simp] theorem respond_pend (ws : List Word) : (respond ws s).pend = s.pend := rfl
@[simp] theorem respond_input (ws : List Word) : (respond ws s).input = s.input := rfl
@[simp] theorem respond_resp (ws : List Word) : (respond ws s).resp = s.resp ++ ws := rfl
@[simp] theorem respond_events (ws : List Word) : (respond ws s).events = s.events := rfl
@[simp] theorem respond_ret (ws : List Word) : (respond ws s).ret = s.ret := rfl

/-! ### clearOutputs -/

@[simp] theorem clearOutputs_cfg : (clearOutputs s).cfg = s.cfg := rfl
@[simp] theorem clearOutputs_now : (clearOutputs s).now = s.now := rfl
@[simp] theorem clearOutputs_an : (clearOutputs s).an = s.an := rfl
@[simp] theorem clearOutputs_sd : (clearOutputs s).sd = s.sd := rfl
@[simp] theorem clearOutputs_nfAcc : (clearOutputs s).nfAcc = s.nfAcc := rfl
@[simp] theorem clearOutputs_cam : (clearOutputs s).cam = s.cam := rfl
@[simp] theorem clearOutputs_rx : (clearOutputs s).rx = s.rx := rfl
@[simp] theorem clearOutputs_out : (clearOutputs s).out = s.out := rfl
@[simp] theorem clearOutputs_led : (clearOutputs s).led = s.led := rfl
@[simp] theorem clearOutputs_slot : (clearOutputs s).slot = s.slot := rfl
@[simp] theorem clearOutputs_sch : (clearOutputs s).sch = s.sch := rfl
@[simp] theorem clearOutputs_act : (clearOutputs s).act = s.act := rfl
@[simp] theorem clearOutputs_tx : (clearOutputs s).tx = s.tx := rfl
@[simp] theorem clearOutputs_st : (clearOutputs s).st = s.st := rfl
@[simp] theorem clearOutputs_win : (clearOutputs s).win = s.win := rfl
@[simp] theorem clearOutputs_pend : (clearOutputs s).pend = s.pend := rfl
@[simp] theorem clearOutputs_input : (clearOutputs s).input = s.input := rfl
@[simp] theorem clearOutputs_resp : (clearOutputs s).resp = [] := rfl
@[simp] theorem clearOutputs_events : (clearOutputs s).events = [] := rfl
@[simp] theorem clearOutputs_ret : (clearOutputs s).ret = s.ret := rfl

/-! ### goertzelRegs -/

@[simp] theorem goertzelRegs_cfg (t : Tone) : (goertzelRegs t s).cfg = s.cfg := rfl
@[simp] theorem goertzelRegs_now (t : Tone) : (goertzelRegs t s).now = s.now := rfl
@[simp] theorem goertzelRegs_an_s1 (t : Tone) : (goertzelRegs t s).an.s1 = s.an.s1.set t (toneRecurrence s t).s1 := rfl
@[simp] theorem goertzelRegs_an_s2 (t : Tone) : (goertzelRegs t s).an.s2 = s.an.s2.set t (toneRecurrence s t).s2 := rfl
@[simp] theorem goertzelRegs_an_energy (t : Tone) : (goertzelRegs t s).an.energy = s.an.energy := rfl
@[simp] theorem goertzelRegs_an_total (t : Tone) : (goertzelRegs t s).an.total = s.an.total := rfl
@[simp] theorem goertzelRegs_sd (t : Tone) : (goertzelRegs t s).sd = s.sd := rfl
@[simp] theorem goertzelRegs_nfAcc (t : Tone) : (goertzelRegs t s).nfAcc = s.nfAcc := rfl
@[simp] theorem goertzelRegs_cam (t : Tone) : (goertzelRegs t s).cam = s.cam := rfl
@[simp] theorem goertzelRegs_rx (t : Tone) : (goertzelRegs t s).rx = s.rx := rfl
@[simp] theorem goertzelRegs_out (t : Tone) : (goertzelRegs t s).out = s.out := rfl
@[simp] theorem goertzelRegs_led (t : Tone) : (goertzelRegs t s).led = s.led := rfl
@[simp] theorem goertzelRegs_slot (t : Tone) : (goertzelRegs t s).slot = s.slot := rfl
@[simp] theorem goertzelRegs_sch (t : Tone) : (goertzelRegs t s).sch = s.sch := rfl
@[simp] theorem goertzelRegs_act (t : Tone) : (goertzelRegs t s).act = s.act := rfl
@[simp] theorem goertzelRegs_tx (t : Tone) : (goertzelRegs t s).tx = s.tx := rfl
@[simp] theorem goertzelRegs_st (t : Tone) : (goertzelRegs t s).st = s.st := rfl
@[simp] theorem goertzelRegs_win (t : Tone) : (goertzelRegs t s).win = s.win := rfl
@[simp] theorem goertzelRegs_pend (t : Tone) : (goertzelRegs t s).pend = s.pend := rfl
@[simp] theorem goertzelRegs_input (t : Tone) : (goertzelRegs t s).input = s.input := rfl
@[simp] theorem goertzelRegs_resp (t : Tone) : (goertzelRegs t s).resp = s.resp := rfl
@[simp] theorem goertzelRegs_events (t : Tone) : (goertzelRegs t s).events = s.events := rfl
@[simp] theorem goertzelRegs_ret (t : Tone) : (goertzelRegs t s).ret = s.ret := rfl

/-! ### analyze -/

@[simp] theorem analyze_cfg : (analyze s).cfg = s.cfg := rfl
@[simp] theorem analyze_now : (analyze s).now = s.now := rfl
@[simp] theorem analyze_sd : (analyze s).sd = s.sd := rfl
@[simp] theorem analyze_nfAcc : (analyze s).nfAcc = s.nfAcc := rfl
@[simp] theorem analyze_cam : (analyze s).cam = s.cam := rfl
@[simp] theorem analyze_rx : (analyze s).rx = s.rx := rfl
@[simp] theorem analyze_out : (analyze s).out = s.out := rfl
@[simp] theorem analyze_led : (analyze s).led = s.led := rfl
@[simp] theorem analyze_slot : (analyze s).slot = s.slot := rfl
@[simp] theorem analyze_sch : (analyze s).sch = s.sch := rfl
@[simp] theorem analyze_act : (analyze s).act = s.act := rfl
@[simp] theorem analyze_tx : (analyze s).tx = s.tx := rfl
@[simp] theorem analyze_st : (analyze s).st = s.st := rfl
@[simp] theorem analyze_win : (analyze s).win = s.win := rfl
@[simp] theorem analyze_pend : (analyze s).pend = s.pend := rfl
@[simp] theorem analyze_input : (analyze s).input = s.input := rfl
@[simp] theorem analyze_resp : (analyze s).resp = s.resp := rfl
@[simp] theorem analyze_events : (analyze s).events = s.events := rfl
@[simp] theorem analyze_ret : (analyze s).ret = s.ret := rfl

/-! ### setRx -/

@[simp] theorem setRx_cfg (st : RxState) (cnt : BitVec 6) : (setRx st cnt s).cfg = s.cfg := rfl
@[simp] theorem setRx_now (st : RxState) (cnt : BitVec 6) : (setRx st cnt s).now = s.now := rfl
@[simp] theorem setRx_an (st : RxState) (cnt : BitVec 6) : (setRx st cnt s).an = s.an := rfl
@[simp] theorem setRx_sd (st : RxState) (cnt : BitVec 6) : (setRx st cnt s).sd = s.sd := rfl
@[simp] theorem setRx_nfAcc (st : RxState) (cnt : BitVec 6) : (setRx st cnt s).nfAcc = s.nfAcc := rfl
@[simp] theorem setRx_cam (st : RxState) (cnt : BitVec 6) : (setRx st cnt s).cam = s.cam := rfl
@[simp] theorem setRx_rx_state (st : RxState) (cnt : BitVec 6) : (setRx st cnt s).rx.state = st := rfl
@[simp] theorem setRx_rx_cnt (st : RxState) (cnt : BitVec 6) : (setRx st cnt s).rx.cnt = cnt := rfl
@[simp] theorem setRx_rx_score (st : RxState) (cnt : BitVec 6) : (setRx st cnt s).rx.score = s.rx.score := rfl
@[simp] theorem setRx_rx_hist (st : RxState) (cnt : BitVec 6) : (setRx st cnt s).rx.hist = s.rx.hist := rfl
@[simp] theorem setRx_rx_bits (st : RxState) (cnt : BitVec 6) : (setRx st cnt s).rx.bits = s.rx.bits := rfl
@[simp] theorem setRx_out (st : RxState) (cnt : BitVec 6) : (setRx st cnt s).out = s.out := rfl
@[simp] theorem setRx_led (st : RxState) (cnt : BitVec 6) : (setRx st cnt s).led = s.led := rfl
@[simp] theorem setRx_slot (st : RxState) (cnt : BitVec 6) : (setRx st cnt s).slot = s.slot := rfl
@[simp] theorem setRx_sch (st : RxState) (cnt : BitVec 6) : (setRx st cnt s).sch = s.sch := rfl
@[simp] theorem setRx_act (st : RxState) (cnt : BitVec 6) : (setRx st cnt s).act = s.act := rfl
@[simp] theorem setRx_tx (st : RxState) (cnt : BitVec 6) : (setRx st cnt s).tx = s.tx := rfl
@[simp] theorem setRx_st (st : RxState) (cnt : BitVec 6) : (setRx st cnt s).st = s.st := rfl
@[simp] theorem setRx_win (st : RxState) (cnt : BitVec 6) : (setRx st cnt s).win = s.win := rfl
@[simp] theorem setRx_pend (st : RxState) (cnt : BitVec 6) : (setRx st cnt s).pend = s.pend := rfl
@[simp] theorem setRx_input (st : RxState) (cnt : BitVec 6) : (setRx st cnt s).input = s.input := rfl
@[simp] theorem setRx_resp (st : RxState) (cnt : BitVec 6) : (setRx st cnt s).resp = s.resp := rfl
@[simp] theorem setRx_events (st : RxState) (cnt : BitVec 6) : (setRx st cnt s).events = s.events := rfl
@[simp] theorem setRx_ret (st : RxState) (cnt : BitVec 6) : (setRx st cnt s).ret = s.ret := rfl

/-! ### setScore -/

@[simp] theorem setScore_cfg (n : Nat) : (setScore n s).cfg = s.cfg := rfl
@[simp] theorem setScore_now (n : Nat) : (setScore n s).now = s.now := rfl
@[simp] theorem setScore_an (n : Nat) : (setScore n s).an = s.an := rfl
@[simp] theorem setScore_sd (n : Nat) : (setScore n s).sd = s.sd := rfl
@[simp] theorem setScore_nfAcc (n : Nat) : (setScore n s).nfAcc = s.nfAcc := rfl
@[simp] theorem setScore_cam (n : Nat) : (setScore n s).cam = s.cam := rfl
@[simp] theorem setScore_rx_state (n : Nat) : (setScore n s).rx.state = s.rx.state := rfl
@[simp] theorem setScore_rx_cnt (n : Nat) : (setScore n s).rx.cnt = s.rx.cnt := rfl
@[simp] theorem setScore_rx_score (n : Nat) : (setScore n s).rx.score = BitVec.ofNat 5 n := rfl
@[simp] theorem setScore_rx_hist (n : Nat) : (setScore n s).rx.hist = s.rx.hist := rfl
@[simp] theorem setScore_rx_bits (n : Nat) : (setScore n s).rx.bits = s.rx.bits := rfl
@[simp] theorem setScore_out (n : Nat) : (setScore n s).out = s.out := rfl
@[simp] theorem setScore_led (n : Nat) : (setScore n s).led = s.led := rfl
@[simp] theorem setScore_slot (n : Nat) : (setScore n s).slot = s.slot := rfl
@[simp] theorem setScore_sch (n : Nat) : (setScore n s).sch = s.sch := rfl
@[simp] theorem setScore_act (n : Nat) : (setScore n s).act = s.act := rfl
@[simp] theorem setScore_tx (n : Nat) : (setScore n s).tx = s.tx := rfl
@[simp] theorem setScore_st (n : Nat) : (setScore n s).st = s.st := rfl
@[simp] theorem setScore_win (n : Nat) : (setScore n s).win = s.win := rfl
@[simp] theorem setScore_pend (n : Nat) : (setScore n s).pend = s.pend := rfl
@[simp] theorem setScore_input (n : Nat) : (setScore n s).input = s.input := rfl
@[simp] theorem setScore_resp (n : Nat) : (setScore n s).resp = s.resp := rfl
@[simp] theorem setScore_events (n : Nat) : (setScore n s).events = s.events := rfl
@[simp] theorem setScore_ret (n : Nat) : (setScore n s).ret = s.ret := rfl

/-! ### setBits -/

@[simp] theorem setBits_cfg (b : BitVec 80) : (setBits b s).cfg = s.cfg := rfl
@[simp] theorem setBits_now (b : BitVec 80) : (setBits b s).now = s.now := rfl
@[simp] theorem setBits_an (b : BitVec 80) : (setBits b s).an = s.an := rfl
@[simp] theorem setBits_sd (b : BitVec 80) : (setBits b s).sd = s.sd := rfl
@[simp] theorem setBits_nfAcc (b : BitVec 80) : (setBits b s).nfAcc = s.nfAcc := rfl
@[simp] theorem setBits_cam (b : BitVec 80) : (setBits b s).cam = s.cam := rfl
@[simp] theorem setBits_rx_state (b : BitVec 80) : (setBits b s).rx.state = s.rx.state := rfl
@[simp] theorem setBits_rx_cnt (b : BitVec 80) : (setBits b s).rx.cnt = s.rx.cnt := rfl
@[simp] theorem setBits_rx_score (b : BitVec 80) : (setBits b s).rx.score = s.rx.score := rfl
@[simp] theorem setBits_rx_hist (b : BitVec 80) : (setBits b s).rx.hist = s.rx.hist := rfl
@[simp] theorem setBits_rx_bits (b : BitVec 80) : (setBits b s).rx.bits = b := rfl
@[simp] theorem setBits_out (b : BitVec 80) : (setBits b s).out = s.out := rfl
@[simp] theorem setBits_led (b : BitVec 80) : (setBits b s).led = s.led := rfl
@[simp] theorem setBits_slot (b : BitVec 80) : (setBits b s).slot = s.slot := rfl
@[simp] theorem setBits_sch (b : BitVec 80) : (setBits b s).sch = s.sch := rfl
@[simp] theorem setBits_act (b : BitVec 80) : (setBits b s).act = s.act := rfl
@[simp] theorem setBits_tx (b : BitVec 80) : (setBits b s).tx = s.tx := rfl
@[simp] theorem setBits_st (b : BitVec 80) : (setBits b s).st = s.st := rfl
@[simp] theorem setBits_win (b : BitVec 80) : (setBits b s).win = s.win := rfl
@[simp] theorem setBits_pend (b : BitVec 80) : (setBits b s).pend = s.pend := rfl
@[simp] theorem setBits_input (b : BitVec 80) : (setBits b s).input = s.input := rfl
@[simp] theorem setBits_resp (b : BitVec 80) : (setBits b s).resp = s.resp := rfl
@[simp] theorem setBits_events (b : BitVec 80) : (setBits b s).events = s.events := rfl
@[simp] theorem setBits_ret (b : BitVec 80) : (setBits b s).ret = s.ret := rfl

/-! ### shiftIn -/

@[simp] theorem shiftIn_cfg (v : Bool) (t : Tone) : (shiftIn v t s).cfg = s.cfg := rfl
@[simp] theorem shiftIn_now (v : Bool) (t : Tone) : (shiftIn v t s).now = s.now := rfl
@[simp] theorem shiftIn_an (v : Bool) (t : Tone) : (shiftIn v t s).an = s.an := rfl
@[simp] theorem shiftIn_sd (v : Bool) (t : Tone) : (shiftIn v t s).sd = s.sd := rfl
@[simp] theorem shiftIn_nfAcc (v : Bool) (t : Tone) : (shiftIn v t s).nfAcc = s.nfAcc := rfl
@[simp] theorem shiftIn_cam (v : Bool) (t : Tone) : (shiftIn v t s).cam = s.cam := rfl
@[simp] theorem shiftIn_rx_state (v : Bool) (t : Tone) : (shiftIn v t s).rx.state = s.rx.state := rfl
@[simp] theorem shiftIn_rx_cnt (v : Bool) (t : Tone) : (shiftIn v t s).rx.cnt = s.rx.cnt := rfl
@[simp] theorem shiftIn_rx_score (v : Bool) (t : Tone) : (shiftIn v t s).rx.score = s.rx.score := rfl
@[simp] theorem shiftIn_rx_hist (v : Bool) (t : Tone) : (shiftIn v t s).rx.hist = shiftHist s.rx.hist ⟨v, t⟩ := rfl
@[simp] theorem shiftIn_rx_bits (v : Bool) (t : Tone) : (shiftIn v t s).rx.bits = s.rx.bits := rfl
@[simp] theorem shiftIn_out (v : Bool) (t : Tone) : (shiftIn v t s).out = s.out := rfl
@[simp] theorem shiftIn_led (v : Bool) (t : Tone) : (shiftIn v t s).led = s.led := rfl
@[simp] theorem shiftIn_slot (v : Bool) (t : Tone) : (shiftIn v t s).slot = s.slot := rfl
@[simp] theorem shiftIn_sch (v : Bool) (t : Tone) : (shiftIn v t s).sch = s.sch := rfl
@[simp] theorem shiftIn_act (v : Bool) (t : Tone) : (shiftIn v t s).act = s.act := rfl
@[simp] theorem shiftIn_tx (v : Bool) (t : Tone) : (shiftIn v t s).tx = s.tx := rfl
@[simp] theorem shiftIn_st (v : Bool) (t : Tone) : (shiftIn v t s).st = s.st := rfl
@[simp] theorem shiftIn_win (v : Bool) (t : Tone) : (shiftIn v t s).win = s.win := rfl
@[simp] theorem shiftIn_pend (v : Bool) (t : Tone) : (shiftIn v t s).pend = s.pend := rfl
@[simp] theorem shiftIn_input (v : Bool) (t : Tone) : (shiftIn v t s).input = s.input := rfl
@[simp] theorem shiftIn_resp (v : Bool) (t : Tone) : (shiftIn v t s).resp = s.resp := rfl
@[simp] theorem shiftIn_events (v : Bool) (t : Tone) : (shiftIn v t s).events = s.events := rfl
@[simp] theorem shiftIn_ret (v : Bool) (t : Tone) : (shiftIn v t s).ret = s.ret := rfl

/-! ### setSch -/

@[simp] theorem setSch_cfg (st : SchState) (cnt : BitVec 16) : (setSch st cnt s).cfg = s.cfg := rfl
@[simp] theorem setSch_now (st : SchState) (cnt : BitVec 16) : (setSch st cnt s).now = s.now := rfl
@[simp] theorem setSch_an (st : SchState) (cnt : BitVec 16) : (setSch st cnt s).an = s.an := rfl
@[simp] theorem setSch_sd (st : SchState) (cnt : BitVec 16) : (setSch st cnt s).sd = s.sd := rfl
@[simp] theorem setSch_nfAcc (st : SchState) (cnt : BitVec 16) : (setSch st cnt s).nfAcc = s.nfAcc := rfl
@[simp] theorem setSch_cam (st : SchState) (cnt : BitVec 16) : (setSch st cnt s).cam = s.cam := rfl
@[simp] theorem setSch_rx (st : SchState) (cnt : BitVec 16) : (setSch st cnt s).rx = s.rx := rfl
@[simp] theorem setSch_out (st : SchState) (cnt : BitVec 16) : (setSch st cnt s).out = s.out := rfl
@[simp] theorem setSch_led (st : SchState) (cnt : BitVec 16) : (setSch st cnt s).led = s.led := rfl
@[simp] theorem setSch_slot (st : SchState) (cnt : BitVec 16) : (setSch st cnt s).slot = s.slot := rfl
@[simp] theorem setSch_sch_state (st : SchState) (cnt : BitVec 16) : (setSch st cnt s).sch.state = st := rfl
@[simp] theorem setSch_sch_cnt (st : SchState) (cnt : BitVec 16) : (setSch st cnt s).sch.cnt = cnt := rfl
@[simp] theorem setSch_sch_starve (st : SchState) (cnt : BitVec 16) : (setSch st cnt s).sch.starve = s.sch.starve := rfl
@[simp] theorem setSch_act (st : SchState) (cnt : BitVec 16) : (setSch st cnt s).act = s.act := rfl
@[simp] theorem setSch_tx (st : SchState) (cnt : BitVec 16) : (setSch st cnt s).tx = s.tx := rfl
@[simp] theorem setSch_st (st : SchState) (cnt : BitVec 16) : (setSch st cnt s).st = s.st := rfl
@[simp] theorem setSch_win (st : SchState) (cnt : BitVec 16) : (setSch st cnt s).win = s.win := rfl
@[simp] theorem setSch_pend (st : SchState) (cnt : BitVec 16) : (setSch st cnt s).pend = s.pend := rfl
@[simp] theorem setSch_input (st : SchState) (cnt : BitVec 16) : (setSch st cnt s).input = s.input := rfl
@[simp] theorem setSch_resp (st : SchState) (cnt : BitVec 16) : (setSch st cnt s).resp = s.resp := rfl
@[simp] theorem setSch_events (st : SchState) (cnt : BitVec 16) : (setSch st cnt s).events = s.events := rfl
@[simp] theorem setSch_ret (st : SchState) (cnt : BitVec 16) : (setSch st cnt s).ret = s.ret := rfl

/-! ### txStop -/

@[simp] theorem txStop_cfg : (txStop s).cfg = s.cfg := rfl
@[simp] theorem txStop_now : (txStop s).now = s.now := rfl
@[simp] theorem txStop_an : (txStop s).an = s.an := rfl
@[simp] theorem txStop_sd : (txStop s).sd = s.sd := rfl
@[simp] theorem txStop_nfAcc : (txStop s).nfAcc = s.nfAcc := rfl
@[simp] theorem txStop_cam : (txStop s).cam = s.cam := rfl
@[simp] theorem txStop_rx : (txStop s).rx = s.rx := rfl
@[simp] theorem txStop_out : (txStop s).out = s.out := rfl
@[simp] theorem txStop_led : (txStop s).led = s.led := rfl
@[simp] theorem txStop_slot : (txStop s).slot = s.slot := rfl
@[simp] theorem txStop_sch : (txStop s).sch = s.sch := rfl
@[simp] theorem txStop_act : (txStop s).act = s.act := rfl
@[simp] theorem txStop_tx_active : (txStop s).tx.active = false := rfl
@[simp] theorem txStop_tx_idx : (txStop s).tx.idx = 0 := rfl
@[simp] theorem txStop_tx_frame : (txStop s).tx.frame = s.tx.frame := rfl
@[simp] theorem txStop_tx_en : (txStop s).tx.en = false := rfl
@[simp] theorem txStop_tx_tone : (txStop s).tx.tone = 0 := rfl
@[simp] theorem txStop_st : (txStop s).st = s.st := rfl
@[simp] theorem txStop_win : (txStop s).win = s.win := rfl
@[simp] theorem txStop_pend : (txStop s).pend = s.pend := rfl
@[simp] theorem txStop_input : (txStop s).input = s.input := rfl
@[simp] theorem txStop_resp : (txStop s).resp = s.resp := rfl
@[simp] theorem txStop_events : (txStop s).events = s.events := rfl
@[simp] theorem txStop_ret : (txStop s).ret = s.ret := rfl

/-! ### schAfterTx -/

@[simp] theorem schAfterTx_cfg : (schAfterTx s).cfg = s.cfg := rfl
@[simp] theorem schAfterTx_now : (schAfterTx s).now = s.now := rfl
@[simp] theorem schAfterTx_an : (schAfterTx s).an = s.an := rfl
@[simp] theorem schAfterTx_sd : (schAfterTx s).sd = s.sd := rfl
@[simp] theorem schAfterTx_nfAcc : (schAfterTx s).nfAcc = s.nfAcc := rfl
@[simp] theorem schAfterTx_cam : (schAfterTx s).cam = s.cam := rfl
@[simp] theorem schAfterTx_rx : (schAfterTx s).rx = s.rx := rfl
@[simp] theorem schAfterTx_out : (schAfterTx s).out = s.out := rfl
@[simp] theorem schAfterTx_led : (schAfterTx s).led = s.led := rfl
@[simp] theorem schAfterTx_slot : (schAfterTx s).slot = s.slot := rfl
@[simp] theorem schAfterTx_sch_state : (schAfterTx s).sch.state = (if s.slot.valid then .wait else .none) := rfl
@[simp] theorem schAfterTx_sch_cnt : (schAfterTx s).sch.cnt = 0 := rfl
@[simp] theorem schAfterTx_sch_starve : (schAfterTx s).sch.starve = s.sch.starve := rfl
@[simp] theorem schAfterTx_act : (schAfterTx s).act = s.act := rfl
@[simp] theorem schAfterTx_tx : (schAfterTx s).tx = s.tx := rfl
@[simp] theorem schAfterTx_st : (schAfterTx s).st = s.st := rfl
@[simp] theorem schAfterTx_win : (schAfterTx s).win = s.win := rfl
@[simp] theorem schAfterTx_pend : (schAfterTx s).pend = s.pend := rfl
@[simp] theorem schAfterTx_input : (schAfterTx s).input = s.input := rfl
@[simp] theorem schAfterTx_resp : (schAfterTx s).resp = s.resp := rfl
@[simp] theorem schAfterTx_events : (schAfterTx s).events = s.events := rfl
@[simp] theorem schAfterTx_ret : (schAfterTx s).ret = s.ret := rfl

/-! ### txOutput -/

@[simp] theorem txOutput_cfg : (txOutput s).cfg = s.cfg := rfl
@[simp] theorem txOutput_now : (txOutput s).now = s.now := rfl
@[simp] theorem txOutput_an : (txOutput s).an = s.an := rfl
@[simp] theorem txOutput_sd : (txOutput s).sd = s.sd := rfl
@[simp] theorem txOutput_nfAcc : (txOutput s).nfAcc = s.nfAcc := rfl
@[simp] theorem txOutput_cam : (txOutput s).cam = s.cam := rfl
@[simp] theorem txOutput_rx : (txOutput s).rx = s.rx := rfl
@[simp] theorem txOutput_out : (txOutput s).out = s.out := rfl
@[simp] theorem txOutput_led : (txOutput s).led = s.led := rfl
@[simp] theorem txOutput_slot : (txOutput s).slot = s.slot := rfl
@[simp] theorem txOutput_sch : (txOutput s).sch = s.sch := rfl
@[simp] theorem txOutput_act : (txOutput s).act = s.act := rfl
@[simp] theorem txOutput_tx_active : (txOutput s).tx.active = s.tx.active := rfl
@[simp] theorem txOutput_tx_idx : (txOutput s).tx.idx = s.tx.idx + 1 := rfl
@[simp] theorem txOutput_tx_frame : (txOutput s).tx.frame = s.tx.frame := rfl
@[simp] theorem txOutput_tx_en : (txOutput s).tx.en = true := rfl
@[simp] theorem txOutput_tx_tone : (txOutput s).tx.tone = txSym s.tx.frame s.tx.idx.toNat := rfl
@[simp] theorem txOutput_st : (txOutput s).st = s.st := rfl
@[simp] theorem txOutput_win : (txOutput s).win = s.win := rfl
@[simp] theorem txOutput_pend : (txOutput s).pend = s.pend := rfl
@[simp] theorem txOutput_input : (txOutput s).input = s.input := rfl
@[simp] theorem txOutput_resp : (txOutput s).resp = s.resp := rfl
@[simp] theorem txOutput_events : (txOutput s).events = s.events := rfl
@[simp] theorem txOutput_ret : (txOutput s).ret = s.ret := rfl

/-! ### commandError -/

@[simp] theorem commandError_cfg : (commandError s).cfg = s.cfg := rfl
@[simp] theorem commandError_now : (commandError s).now = s.now := rfl
@[simp] theorem commandError_an : (commandError s).an = s.an := rfl
@[simp] theorem commandError_sd : (commandError s).sd = s.sd := rfl
@[simp] theorem commandError_nfAcc : (commandError s).nfAcc = s.nfAcc := rfl
@[simp] theorem commandError_cam : (commandError s).cam = s.cam := rfl
@[simp] theorem commandError_rx : (commandError s).rx = s.rx := rfl
@[simp] theorem commandError_out : (commandError s).out = s.out := rfl
@[simp] theorem commandError_led : (commandError s).led = s.led := rfl
@[simp] theorem commandError_slot : (commandError s).slot = s.slot := rfl
@[simp] theorem commandError_sch : (commandError s).sch = s.sch := rfl
@[simp] theorem commandError_act : (commandError s).act = s.act := rfl
@[simp] theorem commandError_tx : (commandError s).tx = s.tx := rfl
@[simp] theorem commandError_st_overrun : (commandError s).st.overrun = s.st.overrun := rfl
@[simp] theorem commandError_st_cmdErr : (commandError s).st.cmdErr = true := rfl
@[simp] theorem commandError_win : (commandError s).win = s.win := rfl
@[simp] theorem commandError_pend : (commandError s).pend = s.pend := rfl
@[simp] theorem commandError_input : (commandError s).input = s.input := rfl
@[simp] theorem commandError_resp : (commandError s).resp = s.resp := rfl
@[simp] theorem commandError_events : (commandError s).events = s.events ++ [(s.now, .cmd)] := rfl
@[simp] theorem commandError_ret : (commandError s).ret = s.ret := rfl

/-! ### resetMachine -/

@[simp] theorem resetMachine_cfg : (resetMachine s).cfg = s.cfg := rfl
@[simp] theorem resetMachine_now : (resetMachine s).now = (resetState s.cfg).now := rfl
@[simp] theorem resetMachine_an : (resetMachine s).an = (resetState s.cfg).an := rfl
@[simp] theorem resetMachine_sd : (resetMachine s).sd = (resetState s.cfg).sd := rfl
@[simp] theorem resetMachine_nfAcc : (resetMachine s).nfAcc = (resetState s.cfg).nfAcc := rfl
@[simp] theorem resetMachine_cam : (resetMachine s).cam = (resetState s.cfg).cam := rfl
@[simp] theorem resetMachine_rx : (resetMachine s).rx = (resetState s.cfg).rx := rfl
@[simp] theorem resetMachine_out : (resetMachine s).out = (resetState s.cfg).out := rfl
@[simp] theorem resetMachine_led : (resetMachine s).led = (resetState s.cfg).led := rfl
@[simp] theorem resetMachine_slot : (resetMachine s).slot = (resetState s.cfg).slot := rfl
@[simp] theorem resetMachine_sch : (resetMachine s).sch = (resetState s.cfg).sch := rfl
@[simp] theorem resetMachine_act : (resetMachine s).act = (resetState s.cfg).act := rfl
@[simp] theorem resetMachine_tx : (resetMachine s).tx = (resetState s.cfg).tx := rfl
@[simp] theorem resetMachine_st : (resetMachine s).st = (resetState s.cfg).st := rfl
@[simp] theorem resetMachine_win : (resetMachine s).win = s.win := rfl
@[simp] theorem resetMachine_pend : (resetMachine s).pend = (resetState s.cfg).pend := rfl
@[simp] theorem resetMachine_input : (resetMachine s).input = s.input := rfl
@[simp] theorem resetMachine_resp : (resetMachine s).resp = s.resp := rfl
@[simp] theorem resetMachine_events : (resetMachine s).events = s.events ++ [(0, .reset)] := rfl
@[simp] theorem resetMachine_ret : (resetMachine s).ret = s.ret := rfl

end Sys2Proof.Machine
end

