-- ==== Sys2Proof/Laws/Ops.lean ====
section
/-! SUPPORT. For each shared operation, one lemma that says once what it can do. -/

namespace Sys2Proof.Machine

variable {s t : State}

/-! ### Results -/

@[simp] theorem andThen_next (f : State → Result) : andThen (.next s) f = f s := rfl

@[simp] theorem andThen_refused (r : Refusal) (f : State → Result) : andThen (.refused r) f = .refused r := rfl

theorem andThen_eq_next {r : Result} {f : State → Result} :
    andThen r f = .next t ↔ ∃ u, r = .next u ∧ f u = .next t := by
  cases r <;> simp [andThen]

theorem andThen_assoc (r : Result) (f g : State → Result) :
    andThen (andThen r f) g = andThen r fun s => andThen (f s) g := by
  cases r <;> rfl

@[simp] theorem runAll_nil : runAll [] s = .next s := rfl

theorem runAll_cons (i : Instr) (is : List Instr) :
    runAll (i :: is) s = andThen (exec i s) fun t => runAll is t := rfl

theorem runAll_append (is js : List Instr) :
    ∀ s : State, runAll (is ++ js) s = andThen (runAll is s) fun t => runAll js t := by
  induction is with
  | nil => intro s; rfl
  | cons i is ih =>
    intro s
    simp only [List.cons_append, runAll_cons, andThen_assoc]
    congr 1
    funext u
    exact ih u

/-! ### The clock -/

theorem advanceClock_eq_next :
    advanceClock s = .next t ↔ s.now + 1 < 2 ^ s.cfg.wNow ∧ t = { s with now := s.now + 1 } := by
  unfold advanceClock
  split <;> simp_all [eq_comm]

/-! ### The window -/

theorem readFrom_length (k n : Nat) (b : List Sample) : (readFrom k n b).length = k := by
  induction k generalizing n b with
  | zero => rfl
  | succ k ih => cases b <;> simp [readFrom, ih]

/-- Reading the window in order reads sample after sample. -/
theorem readFrom_eq_map (k n : Nat) (b : List Sample) :
    readFrom k n b = (List.range k).map fun j => b[j]?.getD (Config.absentSample (n + j)) := by
  induction k generalizing n b with
  | zero => rfl
  | succ k ih =>
    rw [List.range_succ_eq_map]
    cases b with
    | nil => simp [readFrom, ih, Function.comp_def, Nat.add_assoc, Nat.add_comm 1]
    | cons x xs => simp [readFrom, ih, Function.comp_def, Nat.add_assoc, Nat.add_comm 1]

theorem windowSamples_eq : windowSamples s = (List.range (windowLen s.cfg)).map (memRead s) := by
  simp [windowSamples, readFrom_eq_map, memRead]

/-! ### Widths -/

theorem wrapSigned_fits (w : Nat) (v : Int) : signedFits w (wrapSigned w v) := by
  have hp : (0 : Int) < 2 ^ w := by positivity
  have hl := Int.le_bmod (x := v) (m := 2 ^ w) (by positivity)
  have hu := Int.bmod_lt (x := v) (m := 2 ^ w) (by positivity)
  unfold signedFits wrapSigned
  cases w with
  | zero => norm_num at *
  | succ k => push_cast [pow_succ] at *; omega

theorem saturated_lt (w : Nat) (v : Int) : saturated w v < 2 ^ w := by
  have : 0 < 2 ^ w := by positivity
  unfold saturated
  omega

/-- `an.total` is the sum where 64 bits hold it. -/
theorem totalOf_toNat {e : Four Nat} (h : e.t0 + e.t1 + e.t2 + e.t3 < 2 ^ 64) :
    (totalOf e).toNat = e.t0 + e.t1 + e.t2 + e.t3 := by
  rw [totalOf, if_pos h, BitVec.toNat_ofNat, Nat.mod_eq_of_lt h]

theorem registerWord_toNat {v : Nat} (h : v < 2 ^ 32) : (registerWord v).toNat = v := by
  rw [registerWord, if_pos h, BitVec.toNat_ofNat, Nat.mod_eq_of_lt h]

/-! ### Analyzer, decider, monitor, noise floor -/

theorem analyze_changes (s : State) : analyze s = { s with an := (analyze s).an } := rfl

theorem decideSymbol_changes (obs : Bool) (s : State) : decideSymbol obs s =
    { s with sd := (decideSymbol obs s).sd, events := (decideSymbol obs s).events } := by
  unfold decideSymbol decideObserved
  repeat' split
  all_goals rfl

theorem monitor_changes (s : State) : monitor s = { s with cam := (monitor s).cam } := by
  unfold monitor
  repeat' split
  all_goals rfl

theorem nfUpdate_changes (s : State) : nfUpdate s = { s with nfAcc := (nfUpdate s).nfAcc } := by
  unfold nfUpdate
  split <;> rfl

/-! ### Receiver and ledger -/

@[simp] theorem shiftHist_toList (h : Vector Symbol 20) (x : Symbol) :
    (shiftHist h x).toList = h.toList.tail ++ [x] := by
  simp [shiftHist]

theorem matchCount_le (i : Nat) (l : List Symbol) : matchCount i l ≤ l.length := by
  induction l generalizing i with
  | nil => simp [matchCount]
  | cons x xs ih =>
    have := ih (i + 1)
    simp only [matchCount, List.length_cons]
    split <;> omega

/-- `rx.score` is 0 to 20 (10_state.md R33). -/
theorem matchScore_le (s : State) : matchScore s ≤ 20 := by
  have := matchCount_le 0 s.rx.hist.toList
  simpa [matchScore] using this

theorem enterCooldown_changes (s : State) : enterCooldown s =
    { s with rx := { s.rx with state := (enterCooldown s).rx.state, cnt := (enterCooldown s).rx.cnt } } := by
  unfold enterCooldown
  split <;> rfl

theorem rxIdle_changes (s : State) : rxIdle s =
    { s with rx := { s.rx with
               state := (rxIdle s).rx.state, cnt := (rxIdle s).rx.cnt, score := (rxIdle s).rx.score },
             events := (rxIdle s).events } := by
  unfold rxIdle
  split <;> rfl

theorem rxSync_changes (v : Bool) (t : Tone) (s : State) : rxSync v t s =
    { s with rx := { s.rx with
               state := (rxSync v t s).rx.state, cnt := (rxSync v t s).rx.cnt, bits := (rxSync v t s).rx.bits },
             events := (rxSync v t s).events } := by
  unfold rxSync
  repeat' split
  all_goals rfl

theorem rxCooldown_changes (s : State) : rxCooldown s =
    { s with rx := { s.rx with state := (rxCooldown s).rx.state, cnt := (rxCooldown s).rx.cnt } } := by
  unfold rxCooldown
  split <;> rfl

theorem emitRecord_changes (d : DataWord) (s : State) : emitRecord d s =
    { s with out := recordOf d, st := (emitRecord d s).st, events := (emitRecord d s).events } := by
  unfold emitRecord
  split <;> rfl

theorem ledger_eq_next {deviceId : BitVec 24} {reason ttl : BitVec 8} :
    ledger deviceId reason ttl s = .next t ↔
      ledgerUntil ttl s < 2 ^ s.cfg.wNow ∧
      t = { s with led := ⟨true, max s.led.inhibitUntil (ledgerUntil ttl s),
              deviceId, reason, s.now⟩ } := by
  unfold ledger
  split <;> simp_all [eq_comm]

theorem emit_eq_next {d : DataWord} :
    emit d s = .next t ↔
      ∃ u, ledger (dataDeviceId d) (dataReason d) (dataTtl d) (emitRecord d s) = .next u ∧ t = raise .frame u := by
  unfold emit
  rw [andThen_eq_next]
  constructor
  · rintro ⟨u, hu, ht⟩
    injection ht with ht
    exact ⟨u, hu, ht.symm⟩
  · rintro ⟨u, hu, rfl⟩
    exact ⟨u, hu, rfl⟩

/-- What EMIT can change. -/
theorem emit_changes {d : DataWord} (h : emit d s = .next t) :
    t = { s with out := recordOf d, led := t.led, st := t.st, events := t.events } := by
  obtain ⟨u, hu, rfl⟩ := emit_eq_next.1 h
  obtain ⟨-, rfl⟩ := ledger_eq_next.1 hu
  rw [emitRecord_changes]
  rfl

/-- What RX.CHECK can change. -/
theorem rxCheck_changes {b : BitVec 80} (h : rxCheck b s = .next t) :
    t = { s with rx := { s.rx with state := t.rx.state, cnt := t.rx.cnt },
                 out := t.out, led := t.led, st := t.st, events := t.events } := by
  unfold rxCheck at h
  split at h
  · obtain ⟨u, hu, ht⟩ := andThen_eq_next.1 h
    injection ht with ht
    rw [← ht, enterCooldown_changes, emit_changes hu]
  · injection h with h
    rw [← h]
    rfl

/-- What RX.PAYLOAD can change. -/
theorem rxPayload_changes {v : Bool} {c : Tone} (h : rxPayload v c s = .next t) :
    t = { s with rx := { s.rx with state := t.rx.state, cnt := t.rx.cnt, bits := t.rx.bits },
                 out := t.out, led := t.led, st := t.st, events := t.events } := by
  unfold rxPayload at h
  split at h
  · injection h with h
    rw [← h]
    rfl
  · split at h
    · rw [rxCheck_changes h]
      rfl
    · injection h with h
      rw [← h]
      rfl

/-- What RXSTEP can change: the receiver, the record, the ledger, the sticky flags and the trace. -/
theorem rxStep_changes {v : Bool} {c : Tone} (h : rxStep v c s = .next t) :
    t = { s with rx := t.rx, out := t.out, led := t.led, st := t.st, events := t.events } := by
  unfold rxStep rxArm at h
  split at h
  · injection h with h
    rw [← h, rxIdle_changes]
    rfl
  · injection h with h
    rw [← h, rxSync_changes]
    rfl
  · rw [rxPayload_changes h]
    rfl
  · injection h with h
    rw [← h, rxCooldown_changes]
    rfl

/-! ### Scheduler and transmitter -/

theorem enqueue_changes (d : DataWord) (prio : BitVec 2) (s : State) : enqueue d prio s =
    { s with slot := (enqueue d prio s).slot, sch := (enqueue d prio s).sch } := by
  unfold enqueue
  repeat' split
  all_goals rfl

theorem schWait_changes (rs : BitVec 16) (s : State) : schWait rs s =
    { s with sch := (schWait rs s).sch } := by
  unfold schWait
  repeat' split
  all_goals rfl

theorem schBackoff_changes (s : State) : schBackoff s = { s with sch := (schBackoff s).sch } := by
  unfold schBackoff
  split <;> rfl

theorem schRetry_changes (s : State) : schRetry s = { s with sch := (schRetry s).sch } := by
  unfold schRetry
  split <;> rfl

/-- What SCHSTEP can change: the scheduler, the slot, the transmitter and the trace. -/
theorem schStep_changes (rs : BitVec 16) (s : State) : schStep rs s =
    { s with sch := (schStep rs s).sch, slot := (schStep rs s).slot, tx := (schStep rs s).tx,
             events := (schStep rs s).events } := by
  unfold schStep
  split
  · rfl
  · rw [schWait_changes]
  · split
    · rfl
    · split
      · rfl
      · rw [schBackoff_changes]
  · rw [schRetry_changes]
  · rfl

/-- What ACTSTEP can change: the activation, the slot, the scheduler and the trace. -/
theorem actStep_changes (rj : BitVec 16) (s : State) : actStep rj s =
    { s with act := (actStep rj s).act, slot := (actStep rj s).slot, sch := (actStep rj s).sch,
             events := (actStep rj s).events } := by
  unfold actStep
  split
  · rfl
  · split
    · dsimp only
      rw [enqueue_changes]
      rfl
    · rfl

theorem txDone_changes (s : State) : txDone s =
    { s with tx := (txDone s).tx, sch := (txDone s).sch, rx := (txDone s).rx, events := (txDone s).events } := by
  unfold txDone
  rw [enterCooldown_changes]
  rfl

/-- What TXSTEP can change: the transmitter, and in TXDONE the receiver, the scheduler and the trace. -/
theorem txStep_changes (s : State) : txStep s =
    { s with tx := (txStep s).tx, sch := (txStep s).sch, rx := (txStep s).rx, events := (txStep s).events } := by
  unfold txStep
  split
  · rfl
  · split
    · rfl
    · rw [txDone_changes]

end Sys2Proof.Machine
end

