-- ==== Sys2Proof/Laws/PerInstr.lean ====
section
/-! SUPPORT. Statements made per instruction. -/

namespace Sys2Proof.Laws.EncodingLength

/-- The events an instruction is encoded in: three for SUBMIT and ACTIVATE, one for any other ("0x20 and 0x21 take three
words, every other value takes one", 30_encoding.md R125). -/
def eventCount : Instr → Nat
  | .submit _ _ => 3
  | .activate _ _ => 3
  | .nop => 1
  | .rdreg _ => 1
  | .deactivate => 1
  | .popf => 1
  | .qinh => 1
  | .qlast => 1
  | .clrf => 1
  | .sreset => 1
  | .illegal _ => 1
  | .tickWin _ _ => 1
  | .tickMiss _ => 1
  | .frame _ _ => 1
  | .tone0 _ => 1
  | .tone1 _ => 1
  | .tone2 _ => 1
  | .tone3 _ => 1
  | .analyze => 1
  | .goertzel _ => 1
  | .decideSym _ => 1
  | .monitor => 1
  | .rxstep _ _ => 1
  | .rxIdle => 1
  | .rxSync _ _ => 1
  | .rxPayload _ _ => 1
  | .rxCheck _ => 1
  | .rxCooldown => 1
  | .emit _ => 1
  | .crc16 _ => 1
  | .ledger _ _ _ => 1
  | .nfupdate => 1
  | .actstep _ => 1
  | .enqueue _ _ => 1
  | .schstep _ => 1
  | .schWait _ => 1
  | .schBackoff => 1
  | .schAbort _ => 1
  | .schHandoff => 1
  | .schRetry => 1
  | .encodeFrame _ => 1
  | .txstep => 1
  | .txdone => 1

def Statement (i : Instr) : Prop :=
  ∀ (c : BitVec 16) (evs : List PortEvent), encode c i = some evs → evs.length = eventCount i

theorem of_eq {i : Instr} (h : ∀ c, (encode c i).all (fun evs => evs.length == eventCount i) = true) : Statement i := by
  intro c evs he
  have := h c
  rw [he] at this
  simpa using this

theorem nop : Statement .nop := of_eq fun _ => rfl
theorem rdreg a : Statement (.rdreg a) := of_eq fun _ => rfl
theorem submit a b : Statement (.submit a b) := of_eq fun _ => rfl
theorem activate a b : Statement (.activate a b) := of_eq fun _ => rfl
theorem deactivate : Statement .deactivate := of_eq fun _ => rfl
theorem popf : Statement .popf := of_eq fun _ => rfl
theorem qinh : Statement .qinh := of_eq fun _ => rfl
theorem qlast : Statement .qlast := of_eq fun _ => rfl
theorem clrf : Statement .clrf := of_eq fun _ => rfl
theorem sreset : Statement .sreset := of_eq fun _ => rfl
theorem illegal a : Statement (.illegal a) := of_eq fun _ => rfl
theorem tickWin a b : Statement (.tickWin a b) := of_eq fun _ => rfl
theorem tickMiss a : Statement (.tickMiss a) := of_eq fun _ => rfl
theorem frame a b : Statement (.frame a b) := of_eq fun _ => rfl
theorem tone0 a : Statement (.tone0 a) := of_eq fun _ => rfl
theorem tone1 a : Statement (.tone1 a) := of_eq fun _ => rfl
theorem tone2 a : Statement (.tone2 a) := of_eq fun _ => rfl
theorem tone3 a : Statement (.tone3 a) := of_eq fun _ => rfl
theorem analyze : Statement .analyze := of_eq fun _ => rfl
theorem goertzel a : Statement (.goertzel a) := of_eq fun _ => rfl
theorem decideSym a : Statement (.decideSym a) := of_eq fun _ => rfl
theorem monitor : Statement .monitor := of_eq fun _ => rfl
theorem rxstep a b : Statement (.rxstep a b) := of_eq fun _ => rfl
theorem rxIdle : Statement .rxIdle := of_eq fun _ => rfl
theorem rxSync a b : Statement (.rxSync a b) := of_eq fun _ => rfl
theorem rxPayload a b : Statement (.rxPayload a b) := of_eq fun _ => rfl
theorem rxCheck a : Statement (.rxCheck a) := of_eq fun _ => rfl
theorem rxCooldown : Statement .rxCooldown := of_eq fun _ => rfl
theorem emit a : Statement (.emit a) := of_eq fun _ => rfl
theorem crc16 a : Statement (.crc16 a) := of_eq fun _ => rfl
theorem ledger a b c : Statement (.ledger a b c) := of_eq fun _ => rfl
theorem nfupdate : Statement .nfupdate := of_eq fun _ => rfl
theorem actstep a : Statement (.actstep a) := of_eq fun _ => rfl
theorem enqueue a b : Statement (.enqueue a b) := of_eq fun _ => rfl
theorem schstep a : Statement (.schstep a) := of_eq fun _ => rfl
theorem schWait a : Statement (.schWait a) := of_eq fun _ => rfl
theorem schBackoff : Statement .schBackoff := of_eq fun _ => rfl
theorem schAbort a : Statement (.schAbort a) := of_eq fun _ => rfl
theorem schHandoff : Statement .schHandoff := of_eq fun _ => rfl
theorem schRetry : Statement .schRetry := of_eq fun _ => rfl
theorem encodeFrame a : Statement (.encodeFrame a) := of_eq fun _ => rfl
theorem txstep : Statement .txstep := of_eq fun _ => rfl
theorem txdone : Statement .txdone := of_eq fun _ => rfl

end Sys2Proof.Laws.EncodingLength
end

