-- ==== Sys2Proof/Tests/Slice0.lean ====
section
/-! SUPPORT. Tests: the well-formedness checks, words written out from the spec's encodings, steps from the vectors
of 95_test_vectors.md ("V…"), and a witness for every statement that has hypotheses. -/

namespace Sys2Proof.Tests

open Sys2Proof Sys2Proof.Machine

set_option maxRecDepth 20000

/-! ### Helpers -/

/-- The next state, where there is one. -/
def got (r : Result) : Option State :=
  match r with
  | .next s => some s
  | .fault _ => none
  | .refused _ => none

/-- What `f` reads from the next state of `i` at `s`. -/
def after {α : Type} (i : Instr) (s : State) (f : State → α) : Option α := (got (exec i s)).map f

/-- Why an instruction was refused. -/
def refusal (r : Result) : Option Refusal :=
  match r with
  | .next _ => none
  | .fault _ => none
  | .refused x => some x

/-- A record with windows of ten samples, that meets R11. -/
def tiny : Params := { Config.ref with fsHz := 500, toneBin := ⟨1, 2, 3, 4⟩ }

/-- The state after reset with that record. -/
def small : State := resetState tiny

def base : State := State.reset

/-- The data word DW0 of V30.2. -/
def dw0 : DataWord := 0x11C0ABCDEF020C07#64

/-- Its frame F0. -/
def f0 : FrameBits := 0xE4B111C0ABCDEF020C0706EA#96

/-- The first four samples of SQ(1, 8000), and six zeros. -/
def pulse : List Sample := [8000, 8000, -8000, -8000, 0, 0, 0, 0, 0, 0]

def silence : List Sample := List.replicate 10 0

/-- Energies without anything else. -/
def withEnergy (e0 e1 e2 e3 : Nat) (acc : Nat) : State :=
  { base with
    an := { base.an with
      energy := ⟨e0, e1, e2, e3⟩
      total := BitVec.ofNat 64 (e0 + e1 + e2 + e3) }
    nfAcc := BitVec.ofNat 80 acc }

/-- A receiver in `st` at `cnt`. -/
def receiving (st : RxState) (cnt : Nat) : State :=
  { base with rx := { base.rx with state := st, cnt := BitVec.ofNat 6 cnt } }

/-- A scheduler in `st` at `cnt` with DW0 at priority `prio` in the slot. -/
def scheduling (st : SchState) (cnt : Nat) (prio : BitVec 2) : State :=
  { base with slot := ⟨true, prio, dw0⟩, sch := ⟨st, BitVec.ofNat 16 cnt, 0⟩ }

/-- A transmission of F0 at symbol `idx`. -/
def sending (idx : Nat) : State :=
  { base with tx := ⟨true, BitVec.ofNat 7 idx, f0, true, 0⟩, sch := ⟨.tx, 0, 0⟩ }

/-- The history of the preamble. -/
def preamble : Vector Symbol 20 :=
  ⟨((List.range 20).map fun i => (⟨true, BitVec.ofNat 2 i⟩ : Symbol)).toArray, by simp⟩

/-- The history of the preamble with its entries 3, 7, 11, 15 invalid, and 19 where `also`. -/
def damaged (also : Bool) : Vector Symbol 20 :=
  ⟨((List.range 20).map fun i =>
    if i = 3 ∨ i = 7 ∨ i = 11 ∨ i = 15 ∨ (i = 19 ∧ also = true) then (⟨false, 0⟩ : Symbol)
    else ⟨true, BitVec.ofNat 2 i⟩).toArray, by simp⟩

def idleWith (h : Vector Symbol 20) : State := { base with rx := { base.rx with hist := h } }

/-- An activation about to generate its next request. -/
def activating (gen : BitVec 2) (timer : BitVec 16) (seq : BitVec 8) : State :=
  { base with act := ⟨true, 3, 0x11C0ABCDEF020C#56 ++ seq, gen, timer⟩ }

/-! ### Well-formedness -/

theorem test_illegal_word_is_reserved : WellFormed (.illegal 0x00000000#32) = false := by decide
theorem test_illegal_rdreg_is_not_reserved : WellFormed (.illegal 0x10000018#32) = false := by decide
theorem test_illegal_accepts_reserved : WellFormed (.illegal 0x00000001#32) = true := by decide
theorem test_frame_needs_48_words : WellFormed (.frame (wireFields f0) []) = false := by decide
theorem test_frame_accepts_48_words : WellFormed (.frame (wireFields f0) (List.replicate 48 0)) = true := by decide
theorem test_rxstep_invalid_has_tone_0 : WellFormed (.rxstep false 1) = false := by decide
theorem test_rxSync_invalid_has_tone_0 : WellFormed (.rxSync false 1) = false := by decide
theorem test_rxPayload_invalid_has_tone_0 : WellFormed (.rxPayload false 1) = false := by decide

/-! ### Decoding words written out from 30_encoding.md -/

theorem test_decode_nop : decodeWords [0x00000000#32] = .instr .nop [] := by decide
theorem test_decode_rdreg : decodeWords [0x100000A5#32] = .instr (.rdreg 0xA5#8) [] := by decide
theorem test_decode_submit :
    decodeWords [0x20000003#32, 0x11C0ABCD#32, 0xEF020C07#32] = .instr (.submit 3#2 dw0) [] := by decide
theorem test_decode_submit_waits : decodeWords [0x20000003#32, 0x11C0ABCD#32] =
    .more [0x20000003#32, 0x11C0ABCD#32] := by decide
theorem test_decode_activate :
    decodeWords [0x21000001#32, 0x11C0ABCD#32, 0xEF020C07#32] = .instr (.activate 1#2 dw0) [] := by decide
theorem test_decode_deactivate : decodeWords [0x22000000#32] = .instr .deactivate [] := by decide
theorem test_decode_popf : decodeWords [0x30000000#32] = .instr .popf [] := by decide
theorem test_decode_qinh : decodeWords [0x31000000#32] = .instr .qinh [] := by decide
theorem test_decode_qlast : decodeWords [0x32000000#32] = .instr .qlast [] := by decide
theorem test_decode_clrf : decodeWords [0x33000000#32] = .instr .clrf [] := by decide
theorem test_decode_sreset : decodeWords [0x3F000000#32] = .instr .sreset [] := by decide

/-- V48.17 to V48.19. -/
theorem test_decode_illegal :
    [0x00000001#32, 0x20000004#32, 0x11000000#32, 0xFFFFFFFF#32, 0x10000100#32].map (fun w => decodeWords [w]) =
      [.instr (.illegal 0x00000001#32) [], .instr (.illegal 0x20000004#32) [], .instr (.illegal 0x11000000#32) [],
       .instr (.illegal 0xFFFFFFFF#32) [], .instr (.illegal 0x10000100#32) []] := by decide

theorem test_decode_tick_win : decodeEvent 0xE4B1#16 [] (.tick 1#1 [-1] 2#32) = .instr (.tickWin [-1] 2#32) [] := by
  decide
theorem test_decode_tick_miss : decodeEvent 0xE4B1#16 [] (.tick 0#1 [-1] 2#32) = .instr (.tickMiss 2#32) [] := by
  decide

/-- The table of R100. -/
theorem test_decode_tones : [0b00#2, 0b01#2, 0b11#2, 0b10#2].map (fun b => decodeEvent 0xE4B1#16 [] (.symbol b 7#32)) =
    [.instr (.tone0 7#32) [], .instr (.tone1 7#32) [], .instr (.tone2 7#32) [], .instr (.tone3 7#32) []] := by decide

/-- V30.2. -/
theorem test_decode_frame : decodeEvent 0xE4B1#16 [] (.frame f0 []) =
    .instr (.frame ⟨1#4, 1#4, 3#2, 0#6, 0xABCDEF#24, 2#8, 12#8, 7#8, 0x06EA#16⟩ []) [] := by decide

theorem test_decode_no_frame : decodeEvent 0xE4B1#16 [] (.frame 0#96 []) = .unframed 0#96 [] := by decide

/-- V30.3. -/
theorem test_sync_tones : (List.range 8).map (syncTone Config.ref) = [2, 3, 1, 0, 3, 2, 0, 1] := by decide

theorem test_table_words :
    decodeTableWord 32 0x100000FF = some (.rdreg 0xFF#8) ∧
    decodeTableWord 32 0x20000002 = some (.submit 2#2 0#64) ∧
    decodeTableWord 2 2 = some (.tone3 0) ∧
    decodeTableWord 96 0xE4B111C0ABCDEF020C0706EA = some (.frame (wireFields f0) (List.replicate 48 0)) := by decide

/-! ### Host commands -/

theorem test_nop : got (exec .nop base) = some base := by decide

/-- V48.2, V48.3, V48.5, V48.4, V48.7. -/
theorem test_rdreg : [0x00#8, 0x03#8, 0x40#8, 0x5F#8, 0x45#8, 0x47#8, 0x48#8, 0x18#8].map (fun a =>
      after (.rdreg a) base fun s => (s.resp, s.st.cmdErr)) =
    [some ([0x54454431#32], false), some ([0x40000000#32], false), some ([0x140#32], false), some ([0x32#32], false),
     some ([0x30FC#32], false), some ([0xFFFFCF04#32], false), some ([0xFFFFA57E#32], false), some ([0#32], true)] := by
  decide

/-- R31, R35 and R51: the codes of the sequencing registers, in STATUS and RXSTAT, in STATUS and SCHSTAT. -/
theorem test_rdreg_codes :
    [RxState.idle, .sync, .payload, .cooldown].map (fun st =>
      [0x01#8, 0x0F#8].map fun a => after (.rdreg a) (receiving st 3) State.resp) =
    [[some [0x000#32], some [0x300#32]], [some [0x100#32], some [0x301#32]], [some [0x200#32], some [0x302#32]],
     [some [0x300#32], some [0x303#32]]] ∧
    [SchState.none, .wait, .backoff, .retry, .tx].map (fun st =>
      [0x01#8, 0x10#8].map fun a => after (.rdreg a) (scheduling st 2 1) State.resp) =
    [[some [0x0080#32], some [0x218#32]], [some [0x0480#32], some [0x219#32]], [some [0x0880#32], some [0x21A#32]],
     [some [0x0C80#32], some [0x21B#32]], [some [0x1080#32], some [0x21C#32]]] := by decide

/-- V48.8. -/
theorem test_submit : after (.submit 3 dw0) base (fun s => (s.slot, s.sch)) =
    some (⟨true, 3, dw0⟩, ⟨.wait, 0, 0⟩) := by decide

/-- V47.5, an equal and a lower priority. -/
theorem test_enqueue_equal_supersedes : after (.enqueue 2 1) (scheduling .backoff 17 1) (fun s => (s.slot, s.sch)) =
    some (⟨true, 1, 2⟩, ⟨.wait, 0, 0⟩) := by decide
theorem test_enqueue_lower_is_dropped : got (exec (.enqueue 3 0) (scheduling .backoff 17 1)) =
    some (scheduling .backoff 17 1) := by decide

/-- V48.9. -/
theorem test_activate : after (.activate 3 dw0) base State.act = some ⟨true, 3, dw0, 0, 0⟩ := by decide

/-- V48.10. -/
theorem test_deactivate : after .deactivate (activating 2 5 9) State.act =
    some ⟨false, 3, 0x11C0ABCDEF020C09#64, 2, 5⟩ := by decide

/-- V48.11, V48.12. -/
theorem test_popf : after .popf { base with out := ⟨true, 0xABCDEF, 2, 3, 12, 7⟩ } (fun s => (s.resp, s.out.valid)) =
    some ([0x83ABCDEF#32, 0x020C0700#32], false) := by decide
theorem test_popf_empty : after .popf base State.resp = some [0#32, 0#32] := by decide

/-- V45.6. -/
theorem test_qinh : [672, 673].map (fun n =>
      after .qinh { base with now := n, led := { base.led with inhibitUntil := 673 } } State.resp) =
    [some [1#32], some [0#32]] := by decide

/-- V48.14. -/
theorem test_qlast : after .qlast { base with led := ⟨true, 673, 0xABCDEF, 2, 73⟩ } State.resp =
    some [0x80ABCDEF#32, 2#32, 0x49#32] := by decide

/-- V48.16. -/
theorem test_clrf : after .clrf { base with st := ⟨true, true⟩ } State.st = some ⟨false, false⟩ := by decide

/-- V48.20, V70.2. -/
theorem test_sreset : after .sreset { sending 30 with now := 40 } (fun s => (s.now, s.tx.active, s.tx.en, s.sch.state)) =
    some (0, false, false, .none) := by decide

/-- V48.17. -/
theorem test_illegal : after (.illegal 1) base (fun s => (s.st.cmdErr, s.resp, s.events)) =
    some (true, [], [(0, .cmd)]) := by decide

/-! ### Analyzer, decider, monitor, noise floor -/

/-- V41.16, the first four turns of GOERTZEL(0). -/
theorem test_goertzel_turns : goertzelLoop 48 12540#16 [8000, 8000, 8000, -8000] = ⟨-13850, 10809⟩ := by decide

/-- By hand from R12 and R152: wrap_48 and sext_16 past their range, sat_62 at both ends. -/
theorem test_widths : wrapSigned 48 (2 ^ 47) = -2 ^ 47 ∧ signExtended 16 0xFFFF = -1 ∧ signExtended 16 (-32768) = -32768 ∧
    saturated 62 (-1) = 0 ∧ saturated 62 (2 ^ 62) = 2 ^ 62 - 1 := by decide

/-- By hand from R152 with COEFF[1] = 0: s0 = x − s2 over 8000, 8000, −8000, −8000 and six zeros ends at 16000, −16000 for
the last two, so raw = 2 × 16000²; with W_E = 4 it saturates. -/
theorem test_goertzel : after (.goertzel 1) { small with win := pulse } (fun s => (s.an.s1.t1 ^ 2, s.an.s2.t1 ^ 2, s.ret)) =
      some (256000000, 256000000, 512000000) ∧
    after (.goertzel 1) { small with win := pulse, cfg := { tiny with wE := 4 } } State.ret = some 15 := by decide

/-- R153 on the same window: the energy of tone 1, and the total. -/
theorem test_analyze : after .analyze { small with win := pulse } (fun s => (s.an.energy.t1,
      s.an.total.toNat - s.an.energy.t0 - s.an.energy.t2 - s.an.energy.t3)) =
    some (512000000, 512000000) := by decide

/-- V42.1, V42.5, V42.4, V42.7. -/
theorem test_decide : [(100, 0, 0, 0, 25), (7, 7, 0, 0, 0), (102, 50, 0, 0, 0), (0, 0, 0, 5, 1)].map
      (fun (a, b, c, d, n) => after (.decideSym true) (withEnergy a b c d (n * 16)) State.sd) =
    [some ⟨true, 0⟩, some ⟨false, 0⟩, some ⟨true, 0⟩, some ⟨true, 3⟩] := by decide

/-- V42.2, V42.12. -/
theorem test_decide_reject : [true, false].map (fun obs => after (.decideSym obs) (withEnergy 99 0 0 0 400)
      fun s => (s.sd, s.events)) =
    [some (⟨false, 0⟩, [(0, .reject)]), some (⟨false, 0⟩, [])] := by decide

/-- V42.13, first rise; V42.14, strictness at the threshold. -/
theorem test_monitor : [(41, 2), (41, 1), (40, 2)].map (fun (e, c) =>
      after .monitor { withEnergy e 0 0 0 160 with cam := ⟨false, c⟩ } State.cam) =
    [some ⟨true, 0⟩, some ⟨false, 2⟩, some ⟨false, 0⟩] := by decide
theorem test_monitor_falls : after .monitor { withEnergy 0 0 0 0 160 with cam := ⟨true, 2⟩ } State.cam =
    some ⟨false, 0⟩ := by decide

/-- V40 and V42.17. -/
theorem test_nfupdate : [RxState.idle, .sync, .payload, .cooldown].map (fun st =>
      after .nfupdate (receiving st 1) State.nfAcc) =
    [some 16106127360, some 17179869184, some 17179869184, some 16106127360] := by decide
theorem test_nfupdate_busy : after .nfupdate { base with cam := ⟨true, 0⟩ } State.nfAcc = some 17179869184 := by decide

/-! ### Receiver, ledger, CRC -/

/-- R193: the preamble scores 20, with four entries invalid 16, with five 15. -/
theorem test_rxIdle : [preamble, damaged false, damaged true].map (fun h =>
      after .rxIdle (idleWith h) fun s => (s.rx.score, s.rx.state)) =
    [some (20, .sync), some (16, .sync), some (15, .idle)] := by decide

/-- R192: the newest symbol enters at 19, and the arm of the state runs. -/
theorem test_rxstep : after (.rxstep true 2) (receiving .sync 0) (fun s => (s.rx.hist[19], s.rx.cnt, s.rx.state)) =
    some (⟨true, 2⟩, 1, .sync) := by decide

/-- R195: a match, a mismatch, an invalid symbol, the eighth symbol. -/
theorem test_rxSync : [(0, true, 2), (0, true, 0), (0, false, 0), (7, true, 1)].map (fun (c, v, t) =>
      after (.rxSync v t) (receiving .sync c) fun s => (s.rx.state, s.rx.cnt)) =
    [some (.sync, 1), some (.idle, 0), some (.idle, 0), some (.payload, 0)] := by decide

/-- R197's worked example; E_TORN. -/
theorem test_rxPayload : after (.rxPayload true 2) { base with rx := { base.rx with state := .payload, bits := 0x11 } }
    (fun s => (s.rx.bits, s.rx.cnt)) = some (0x47, 1) := by decide
theorem test_rxPayload_torn : after (.rxPayload false 0) (receiving .payload 12) (fun s => (s.rx.state, s.events)) =
    some (.idle, [(0, .torn)]) := by decide

/-- R198's worked example; V43.8. -/
theorem test_rxCheck : after (.rxCheck 0x11C0ABCDEF020C0706EA) (receiving .payload 39)
    (fun s => (s.rx.state, s.rx.cnt, s.out)) = some (.cooldown, 10, ⟨true, 0xABCDEF, 2, 3, 12, 7⟩) := by decide
theorem test_rxCheck_crc : after (.rxCheck 0x11C0ABCDEF060C0706EA) (receiving .payload 39)
    (fun s => (s.rx.state, s.out.valid, s.events)) = some (.idle, false, [(0, .crc)]) := by decide

/-- R199. -/
theorem test_rxCooldown : [10, 1].map (fun c => after .rxCooldown (receiving .cooldown c)
      fun s => (s.rx.state, s.rx.cnt)) = [some (.cooldown, 9), some (.idle, 0)] := by decide

/-- R200 and V43.10: a second record overruns the first. -/
theorem test_emit : after (.emit dw0) { base with out := ⟨true, 1, 1, 1, 1, 1⟩, now := 136 }
    (fun s => (s.out, s.st.overrun, s.events)) =
    some (⟨true, 0xABCDEF, 2, 3, 12, 7⟩, true, [(136, .overrun), (136, .frame)]) := by decide

/-- V44.1, V44.4, V44.5, V44.5e. -/
theorem test_crc16 : [[], [0x31, 0x32, 0x33, 0x34, 0x35, 0x36, 0x37, 0x38, 0x39],
      [0x11, 0xC0, 0xAB, 0xCD, 0xEF, 0x02, 0x0C, 0x07], [0x11, 0xC0, 0xAB, 0xCD, 0xEF, 0x02, 0x0C, 0x07, 0x06, 0xEA]].map
      (fun bytes => after (.crc16 bytes) base State.ret) =
    [some 0xFFFF, some 0x29B1, some 0x06EA, some 0] := by decide

/-- V45.1, V45.3, V45.4, V45.5. -/
theorem test_ledger : [(73, 0, 0xABCDEF, 2, 12), (100, 50, 1, 9, 0), (100, 673, 2, 4, 1), (1000, 0, 0xFFFFFF, 255, 255)].map
      (fun (n, u, id, r, ttl) => after (.ledger id r ttl)
        { base with now := n, led := { base.led with inhibitUntil := u } } State.led) =
    [some ⟨true, 673, 0xABCDEF, 2, 73⟩, some ⟨true, 100, 1, 9, 100⟩, some ⟨true, 673, 2, 4, 100⟩,
     some ⟨true, 13750, 0xFFFFFF, 255, 1000⟩] := by decide
theorem test_ledger_overflow : refusal (exec (.ledger 1 2 255) { base with now := 0xFFFFFFFF }) = some .ledgerOverflow := by
  decide

/-! ### Scheduler and activation -/

/-- V47.1, V47.2. -/
theorem test_schWait : [(3, 0x25), (0, 0x32), (1, 0x11), (2, 0xFFFF)].map (fun (p, r) =>
      after (.schWait r) (scheduling .wait 4 p) fun s => (s.sch.state, s.sch.cnt)) =
    [some (.backoff, 4), some (.backoff, 50), some (.backoff, 17), some (.backoff, 1)] := by decide
theorem test_schWait_busy : after (.schWait 0) { scheduling .wait 4 3 with cam := ⟨true, 0⟩ } State.sch =
    some ⟨.wait, 0, 0⟩ := by decide

theorem test_schBackoff : after .schBackoff (scheduling .backoff 4 3) State.sch = some ⟨.backoff, 3, 0⟩ := by decide

/-- V47.4 and R263's worked example. -/
theorem test_schAbort : [(45, 0, 0x32), (6, 2, 0x25), (6, 0xFFFF, 0x25)].map (fun (c, n, r) =>
      after (.schAbort r) { base with sch := ⟨.backoff, c, n⟩ } State.sch) =
    [some ⟨.retry, 1, 1⟩, some ⟨.retry, 8, 3⟩, some ⟨.retry, 8, 0xFFFF⟩] := by decide

/-- R264's worked example. -/
theorem test_schHandoff : after .schHandoff (scheduling .backoff 0 3)
    (fun s => (s.tx.frame, s.tx.active, s.slot, s.sch.state)) = some (f0, true, ⟨false, 3, dw0⟩, .tx) := by decide

/-- R265. -/
theorem test_schRetry : [1, 0].map (fun c => after .schRetry (scheduling .retry c 3) State.sch) =
    [some ⟨.retry, 0, 0⟩, some ⟨.wait, 0, 0⟩] := by decide

/-- R260: busy in the backoff aborts, and a count of 0 hands off. -/
theorem test_schstep : [(true, 1), (false, 0), (false, 1)].map (fun (b, c) =>
      after (.schstep 0) { scheduling .backoff c 3 with cam := ⟨b, 0⟩ } fun s => s.sch.state) =
    [some .retry, some .tx, some .backoff] := by decide

/-- V47.7. -/
theorem test_actstep : [(2, 9), (0, 9), (0, 0xFF)].map (fun (g, q) =>
      after (.actstep 0x64) (activating g 0 q) fun s => (s.act.gen, s.act.timer, s.act.tmpl, s.slot.data)) =
    [some (3, 271, 0x11C0ABCDEF020C0A, 0x11C0ABCDEF020C09), some (1, 99, 0x11C0ABCDEF020C0A, 0x11C0ABCDEF020C09),
     some (1, 99, 0x11C0ABCDEF020C00, 0x11C0ABCDEF020CFF)] := by decide

/-! ### Transmitter -/

/-- R241's worked example; V30.5. -/
theorem test_encode : [dw0, 0, 0xFFFFFFFFFFFFFFFF].map (fun d => after (.encodeFrame d) base State.ret) =
    [some f0.toNat, some 0xE4B10000000000000000313E, some 0xE4B1FFFFFFFFFFFFFFFF97DF] := by decide

/-- V46.1. -/
theorem test_txstep : [0, 19, 20, 27, 28, 32, 66, 67].map (fun i => after .txstep (sending i) fun s => (s.tx.en, s.tx.tone)) =
    [0, 3, 2, 1, 0, 2, 3, 3].map fun t => some (true, t) := by decide

/-- V46.2. -/
theorem test_txdone : [true, false].map (fun v => after .txdone { sending 68 with slot := ⟨v, 0, 0⟩ }
      fun s => (s.tx.active, s.tx.idx, s.rx.state, s.rx.cnt, s.sch.state)) =
    [some (false, 0, .cooldown, 10, .wait), some (false, 0, .cooldown, 10, .none)] := by decide

/-! ### Ticks, symbols, frames -/

/-- V40, on a window of ten samples. -/
theorem test_tickWin : after (.tickWin silence 0) small
    (fun s => (s.now, s.sd, s.nfAcc, s.events)) = some (1, ⟨false, 0⟩, 16106127360, [(1, .reject)]) := by decide

/-- R141 (b): while TED transmits, the window is not analysed. -/
theorem test_tickWin_blanked : after (.tickWin pulse 0) { sending 5 with cfg := tiny }
    (fun s => (s.an.total, s.nfAcc, s.sd, s.events)) = some (0, 17179869184, ⟨false, 0⟩, []) := by decide

/-- V40.2 and V60.1. -/
theorem test_tickMiss : after (.tickMiss 0) base (fun s => (s.now, s.nfAcc, s.events)) =
    some (1, 17179869184, [(1, .gap)]) := by decide
theorem test_tickMiss_torn : after (.tickMiss 0) (receiving .payload 3) (fun s => (s.rx.state, s.events)) =
    some (.idle, [(1, .gap), (1, .torn)]) := by decide

/-- R195's worked example at symbol level. -/
theorem test_tones : [Instr.tone0 0, .tone1 0, .tone2 0, .tone3 0].map (fun i => after i (receiving .sync 0)
      fun s => (s.rx.state, s.rx.cnt, s.sd)) =
    [some (.idle, 0, ⟨true, 0⟩), some (.idle, 0, ⟨true, 1⟩), some (.sync, 1, ⟨true, 2⟩), some (.idle, 0, ⟨true, 3⟩)] := by
  decide

/-- V43.1 from the lock on: F0 is delivered on its last symbol. -/
theorem test_frame : after (.frame (wireFields f0) []) (receiving .sync 0)
    (fun s => (s.now, s.out, s.led.inhibitUntil, s.rx.state, s.rx.cnt)) =
    some (48, ⟨true, 0xABCDEF, 2, 3, 12, 7⟩, 648, .cooldown, 10) := by decide

/-! ### The step -/

/-- A command takes effect with its third word (R290). -/
theorem test_step_holds_words : (got (step { base with pend := [0x20000003#32], input := [.word 5#32] })).map
    (fun s => (s.pend, s.slot.valid)) = some ([0x20000003#32, 5#32], false) := by decide

/-- The first step after reset runs the placed row. -/
theorem test_step_runs_placed : (got (step (base.withFetchWord 32 0x20000003))).map
    (fun s => (s.slot, s.pend)) = some (⟨true, 3, 0⟩, []) := by decide

/-! ### Witnesses: hypotheses that hold together -/

theorem witness_config : configOk Config.ref = true ∧ configOk tiny = true := by decide

theorem witness_DecodeEncodeAgree :
    (WellFormed (.submit 3 dw0) = true ∧ encode 0xE4B1#16 (.submit 3 dw0) =
      some [.word 0x20000003#32, .word 0x11C0ABCD#32, .word 0xEF020C07#32]) ∧
    (WellFormed (.frame (wireFields f0) (List.replicate 48 0)) = true ∧
      encode 0xE4B1#16 (.frame (wireFields f0) (List.replicate 48 0)) = some [.frame f0 (List.replicate 48 0)]) := by decide

theorem witness_CommandWordsHaveOneMeaning :
    takesPayload 0x20000004#32 = false ∧ reservedFirstWord 0x20000004#32 = true ∧
    takesPayload 0x00000000#32 = false ∧ reservedFirstWord 0x00000000#32 = false ∧
    takesPayload 0x20000000#32 = true ∧ takesPayload 0x21000003#32 = true := by decide

theorem witness_StepRunsDecodedInstruction :
    configOk base.cfg = true ∧ ({ base with input := [.word 0#32] } : State).input = .word 0#32 :: [] ∧
    decodeEvent base.cfg.syncWord base.pend (.word 0#32) = .instr .nop [] := by decide

theorem witness_StepOnOtherEvents :
    configOk { Config.ref with camK := 0 } = false ∧ configOk base.cfg = true ∧ base.input = [] ∧
    decodeEvent base.cfg.syncWord base.pend (.word 0x20000000#32) = .more [0x20000000#32] ∧
    decodeEvent base.cfg.syncWord base.pend (.frame 0 []) = .unframed 0 [] := by decide

theorem witness_RdregAnswersOneWord : [0x17#8, 0x40#8, 0x5F#8, 0x18#8, 0x3F#8, 0x60#8].map (fun a =>
      (decide (a.toNat ≤ 0x17 ∨ 0x40 ≤ a.toNat ∧ a.toNat ≤ 0x5F),
        decide (0x18 ≤ a.toNat ∧ a.toNat ≤ 0x3F ∨ 0x60 ≤ a.toNat))) =
    [(true, false), (true, false), (true, false), (false, true), (false, true), (false, true)] := by decide

theorem witness_StatusRegisterMap : base.cfg.wNow ≤ 32 ∧ base.cfg.wE ≤ 62 ∧ timesFit base ∧ analyzerFits base ∧
    base.nfAcc.toNat >>> base.cfg.nfShift < 2 ^ 64 ∧ (0x17#8).toNat ≤ 0x17 := by decide

theorem witness_ConfigurationRegisterMap :
    configOk base.cfg = true ∧ windowLen base.cfg < 2 ^ 32 ∧ base.cfg.fsOffset2 < 2 ^ 32 := by decide

theorem witness_EnqueueSupersedes :
    base.slot.valid = false ∧
    ((scheduling .backoff 17 1).slot.valid = true ∧ (scheduling .backoff 17 1).slot.prio.toNat ≤ (1#2).toNat) ∧
    (0#2).toNat < (scheduling .backoff 17 1).slot.prio.toNat := by decide

theorem witness_PopfDeliversOnce :
    ({ base with out := ⟨true, 1, 1, 1, 1, 1⟩ } : State).out.valid = true ∧ base.out.valid = false := by decide

theorem witness_StickyFlagCommands : reservedFirstWord 0x20000004#32 = true := by decide

theorem witness_CommandsCannotInject : isCommand (.submit 3 dw0) = true ∧ Instr.submit 3 dw0 ≠ .sreset := by decide

theorem witness_SilentWindowHasNoEnergy : windowLen small.cfg = 10 ∧
    ∀ n : Fin 10, memRead { small with win := silence } n.val = 0 := by decide

theorem witness_DecideWindow :
    (∀ u : Tone, (withEnergy 7 7 0 0 0).an.energy.get u ≤ (withEnergy 7 7 0 0 0).an.energy.get 0) ∧
    (∀ u : Tone, u.toNat < (0 : Tone).toNat → 
      (withEnergy 7 7 0 0 0).an.energy.get u < (withEnergy 7 7 0 0 0).an.energy.get 0) ∧
    (1 : Tone) ≠ 0 ∧
    ∀ u : Tone, u ≠ 0 → 
      (withEnergy 7 7 0 0 0).an.energy.get u ≤ (withEnergy 7 7 0 0 0).an.energy.get 1 := by decide

theorem witness_MonitorDebouncesFlag :
    base.cfg.camK ≤ 255 ∧ 1 ≤ base.cfg.camK ∧ (withEnergy 41 0 0 0 160).cam.cnt = 0 ∧
    decide ((withEnergy 41 0 0 0 160).an.total.toNat * base.cfg.camDen >
      noiseFloor (withEnergy 41 0 0 0 160) * base.cfg.camNum) ≠ (withEnergy 41 0 0 0 160).cam.busy ∧
    decide ((withEnergy 40 0 0 0 160).an.total.toNat * base.cfg.camDen >
      noiseFloor (withEnergy 40 0 0 0 160) * base.cfg.camNum) = (withEnergy 40 0 0 0 160).cam.busy ∧
    base.cfg.camK ≤ (2#8).toNat + 1 ∧ (1#8).toNat + 1 < base.cfg.camK ∧ 2 < base.cfg.camK ∧ 3 = base.cfg.camK := by decide

theorem witness_NoiseFloorFollowsTotal :
    noiseFloorFits base ∧ base.cam.busy = false ∧ base.rx.state = .idle ∧ base.cfg.nfShift ≤ 16 ∧
    base.an.total.toNat ≤ noiseFloor base ∧
    noiseFloorFits (withEnergy 25 0 0 0 400) ∧ noiseFloor (withEnergy 25 0 0 0 400) = 25 ∧
    noiseFloorFits { base with cam := ⟨true, 0⟩ } := by decide

theorem witness_receiver_completes :
    clockAhead 0 base ∧ clockAhead 0 { base with now := 0xFFFFCE31 } ∧
    ¬ clockAhead 0 { base with now := 0xFFFFCE32 } := by decide

theorem witness_RxstepShiftsThenRunsOneArm :
    base.rx.state = .idle ∧ (receiving .sync 7).rx.state = .sync ∧ (receiving .payload 39).rx.state = .payload ∧
    (receiving .cooldown 1).rx.state = .cooldown := by decide

theorem witness_RxIdleLocksOnScore : [damaged false, damaged true].map (fun h =>
      ((List.finRange 20).filter fun i : Fin 20 => (h[i.val]).valid && (h[i.val]).tone.toNat == i.val % 4).length) =
    [base.cfg.lockMin, base.cfg.lockMin - 1] := by decide

theorem witness_RxSyncComparesOnArrival :
    (receiving .sync 7).rx.cnt.toNat ≤ 7 ∧ (receiving .sync 7).rx.cnt.toNat = 7 ∧ (receiving .sync 6).rx.cnt.toNat < 7 ∧
    (1 : Tone) = toneOf (base.cfg.syncWord.extractLsb' (14 - 2 * 7) 2) ∧
    (1 : Tone) ≠ toneOf (base.cfg.syncWord.extractLsb' (14 - 2 * 6) 2) := by decide

theorem witness_RxPayloadCollectsDibits :
    (0x47#80).toNat = (0x11 * 4 + (dibitOf 2).toNat) % 2 ^ 80 ∧ (receiving .payload 39).rx.cnt.toNat = 39 ∧
    (receiving .payload 38).rx.cnt.toNat < 39 := by decide

theorem witness_RxCheckEmitsOnMatch :
    crc16 (dataBytes ((0x11C0ABCDEF020C0706EA#80).extractLsb' 16 64)) = (0x11C0ABCDEF020C0706EA#80).extractLsb' 0 16 ∧
    (got (exec (.emit ((0x11C0ABCDEF020C0706EA#80).extractLsb' 16 64)) base)).isSome = true ∧
    base.cfg.cooldownTicks ≤ 63 ∧
    crc16 (dataBytes ((0x11C0ABCDEF060C0706EA#80).extractLsb' 16 64)) ≠ (0x11C0ABCDEF060C0706EA#80).extractLsb' 0 16 := by
  decide

theorem witness_LedgerMergesDeadline :
    0xFFFFCE31 + (255#8).toNat * (1000 / base.cfg.tSymMs) < 2 ^ base.cfg.wNow ∧
    2 ^ base.cfg.wNow ≤ 0xFFFFCE32 + (255#8).toNat * (1000 / base.cfg.tSymMs) := by decide

/-- The source's scenario at REF: 12 s at 0, and 5 s = 250 ticks later again. -/
theorem witness_TtlScenario :
    base.led.inhibitUntil ≤ base.now ∧ base.now + 250 + (12#8).toNat * ticksPerSec base.cfg < 2 ^ base.cfg.wNow ∧
    got (exec (.ledger 1 2 12) base) = some { base with led := ⟨true, 600, 1, 2, 0⟩ } ∧
    got (exec (.ledger 3 4 12) { base with led := ⟨true, 600, 1, 2, 0⟩, now := base.now + 250 }) =
      some { base with led := ⟨true, 850, 3, 4, 250⟩, now := 250 } := by decide

theorem witness_RxCooldownLastsItsTicks :
    (receiving .cooldown 2).rx.state = .cooldown ∧ 1 ≤ (receiving .cooldown 2).rx.cnt.toNat ∧
    [(true, (1 : Tone)), (false, 0)].length ≤ (receiving .cooldown 2).rx.cnt.toNat ∧
    (receiving .cooldown 1).rx.cnt.toNat ≤ 1 ∧ 1 < (receiving .cooldown 2).rx.cnt.toNat := by decide

theorem witness_CrcCatchesOneAndTwoBitErrors :
    crc16 (dataBytes ((0x11C0ABCDEF020C0706EA#80).extractLsb' 16 64)) = (0x11C0ABCDEF020C0706EA#80).extractLsb' 0 16 ∧
    (1#80 = BitVec.twoPow 80 0 ∧ (0 : Nat) ≠ 79 ∧
      (2 ^ 79 + 1 : BitVec 80) = BitVec.twoPow 80 0 ||| BitVec.twoPow 80 79) := by decide

theorem witness_ToneIsOneSymbolTick :
    clockAhead 1 base ∧ base.now + 1 < 2 ^ base.cfg.wNow ∧
    ({ base with now := 0xFFFFFFFE } : State).now + 1 < 2 ^ base.cfg.wNow ∧
    (sending 3).tx.active = true ∧ base.tx.active = false := by decide

theorem witness_FrameAfterLockIsDelivered :
    clockAhead 48 (receiving .sync 0) ∧ (receiving .sync 0).rx.state = .sync ∧ (receiving .sync 0).rx.cnt = 0 ∧
    transmitQuiet (receiving .sync 0) ∧ base.cfg.cooldownTicks ≤ 63 ∧
    (wireFields f0).crc16 = crc16 (dataBytes
      ((wireFields f0).version ++ (wireFields f0).msgType ++ (wireFields f0).priority ++ (wireFields f0).flags ++
        (wireFields f0).deviceId ++ (wireFields f0).reason ++ (wireFields f0).ttl ++ (wireFields f0).seq)) := by decide

theorem witness_TransmissionRoundTrip :
    configOk base.cfg = true ∧ base.rx.state = .idle ∧ (∀ x ∈ base.rx.hist.toList, x.valid = false) ∧
    transmitQuiet base ∧ clockAhead 68 base := by decide

theorem witness_ticks :
    pulse.length = windowLen small.cfg ∧ small.tx.active = false ∧ clockAhead 1 small ∧ small.now + 1 < 2 ^ small.cfg.wNow ∧
    [0].length ≠ windowLen small.cfg ∧ ({ sending 5 with cfg := tiny } : State).tx.active = true ∧
    ({ base with now := 0xFFFFFFFF } : State).now + 1 = 2 ^ base.cfg.wNow := by decide

theorem witness_SchstepRunsOneArm :
    base.sch.state = .none ∧ (sending 1).sch.state = .tx ∧ (scheduling .wait 0 0).sch.state = .wait ∧
    (scheduling .retry 0 0).sch.state = .retry ∧ (scheduling .backoff 0 0).sch.state = .backoff ∧
    (scheduling .backoff 0 0).cam.busy = false ∧ (scheduling .backoff 0 0).sch.cnt.toNat = 0 ∧
    0 < (scheduling .backoff 1 0).sch.cnt.toNat ∧ ({ scheduling .backoff 1 0 with cam := ⟨true, 0⟩ } : State).cam.busy = true := by
  decide

theorem witness_SchWaitSensesThenDraws :
    configOk (scheduling .wait 4 3).cfg = true ∧ (scheduling .wait 4 3).sch.state = .wait ∧
    (scheduling .wait 4 3).cam.busy = false ∧
    (scheduling .wait 4 3).cfg.csTicks ≤ (scheduling .wait 4 3).sch.cnt.toNat + 1 ∧
    (scheduling .wait 3 3).sch.cnt.toNat + 1 < (scheduling .wait 3 3).cfg.csTicks ∧
    ({ scheduling .wait 4 3 with cam := ⟨true, 0⟩ } : State).cam.busy = true := by decide

theorem witness_BackoffRunsDown :
    (scheduling .backoff 2 0).cam.busy = false ∧ 0 < (scheduling .backoff 1 0).sch.cnt.toNat ∧
    (scheduling .backoff 2 0).sch.state = .backoff ∧
    [5#16, 6#16].length ≤ (scheduling .backoff 2 0).sch.cnt.toNat := by decide

theorem witness_SchRetryWaitsOut :
    (scheduling .retry 0 0).sch.cnt.toNat = 0 ∧ 0 < (scheduling .retry 1 0).sch.cnt.toNat ∧
    (scheduling .retry 1 0).sch.state = .retry := by decide

/-- V47.3: 5 + 4 + 1 = 10 steps. -/
theorem witness_UndisturbedAttemptHandsOff :
    configOk base.cfg = true ∧ base.sch.state = .none ∧ base.slot.valid = false ∧ base.tx.active = false ∧
    base.cam.busy = false ∧ base.cfg.csTicks + draw 0x25 0 (base.cfg.bTicks.get 3) + 1 = 10 := by decide

theorem witness_ActstepGeneratesRequests :
    base.act.active = false ∧ (activating 2 0 9).act.active = true ∧ (activating 2 0 9).act.timer.toNat = 0 ∧
    0 < (activating 2 1 9).act.timer.toNat ∧ 272 - 1 < 2 ^ 16 := by decide

theorem witness_transmitter :
    base.tx.active = false ∧ (sending 67).tx.active = true ∧ (sending 67).tx.idx.toNat ≤ 67 ∧
    (sending 68).tx.idx.toNat = 68 ∧ (sending 19).tx.idx.toNat < 20 ∧ 20 ≤ (sending 20).tx.idx.toNat ∧
    (sending 0).tx.idx = 0 ∧ base.cfg.cooldownTicks ≤ 63 := by decide

/-- A state in mid-transmission with a tick to come meets every premise of the invariant statements. -/
theorem witness_StepKeepsInvariant :
    Inv (sending 5) ∧ analyzerFits (sending 5) ∧ timesFit (sending 5) ∧ noiseFloorFits (sending 5) ∧ schCntBounded (sending 5) ∧ sentFrameEncoded (sending 5) ∧
    portHoldsPrefix (sending 5) ∧ ledgerFresh (sending 5) ∧ portFollowsTx (sending 5) ∧
    (got (step { sending 5 with input := [.tick 0 [] 0] })).isSome = true := by decide

/-- A step that starts a transmission. -/
theorem witness_NeverStartsWhileBusy :
    (scheduling .backoff 0 3).tx.active = false ∧
    (got (step { scheduling .backoff 0 3 with input := [.tick 0 [] 0] })).map (fun t => t.tx.active) = some true := by decide

theorem witness_TransmissionIsNotPreempted :
    activeInTx (sending 5) ∧ (sending 5).tx.active = true ∧ (sending 5).tx.idx.toNat ≤ 67 ∧
    decodeEvent 0xE4B1#16 [] (.tick 0 [] 0) = .instr (.tickMiss 0) [] ∧
    (got (step { sending 5 with input := [.tick 0 [] 0] })).map (fun t => (t.tx.active, t.tx.frame)) = some (true, f0) := by
  decide

/-- A frame's last symbol advances the deadline. -/
theorem witness_InhibitUntilNeverDecreases :
    (got (step { base with
        rx := { base.rx with state := .payload, cnt := 39, bits := 0x11C0ABCDEF020C0706EA#80 >>> 2 }
        input := [.symbol 0b10 0] })).map (fun t => t.led.inhibitUntil) = some 601 ∧
    decodeEvent base.cfg.syncWord base.pend (.symbol 0b10 0) = .instr (.tone3 0) [] := by decide

/-- A read at both ends of the range of sixteen bits, and one past it. -/
theorem witness_GoertzelRecurrence : ({ base with win := [32767, -32768, 32768] } : State).win[2]? = some 32768 ∧
    [0, 1, 2].map (memRead { base with win := [32767, -32768, 32768] }) = [32767, -32768, -32768] := by decide

theorem witness_AnalyzeRunsFourGoertzels : base.cfg.wE ≤ 62 := by decide

theorem witness_LedgerQueries : ({ base with led := ⟨true, 673, 0xABCDEF, 2, 73⟩ } : State).led.lastSeen < 2 ^ 32 := by decide

theorem witness_SharedScalarsHaveOneWriter : got (exec .clrf base) = some base ∧ Instr.clrf ≠ .sreset ∧ Instr.clrf ≠ .nfupdate ∧
    Instr.clrf ≠ .monitor := by decide

theorem reset_invariants :
    Inv State.reset ∧ analyzerFits State.reset ∧ timesFit State.reset ∧ noiseFloorFits State.reset ∧ schCntBounded State.reset ∧ sentFrameEncoded State.reset ∧
    portHoldsPrefix State.reset ∧ ledgerFresh State.reset ∧ portFollowsTx State.reset := by decide

end Sys2Proof.Tests
end

section
/-! PROOFS. The step, event by event (60_exceptions.md R342, 70_reset_and_hazards.md R350, 30_encoding.md R109). -/

namespace Sys2Proof.Machine

variable {s : State}

/-! ### The step by its configuration and its input -/

theorem step_of_badConfig (h : configOk s.cfg = false) : step s = .refused .badConfig := by
  simp [step, runStep, h]

/-- With a record that keeps R11, a step takes the next event with the outputs of the last step gone. -/
theorem step_of_configOk (h : configOk s.cfg = true) : step s = consume (clearOutputs s) := by
  simp [step, runStep, h]

theorem consume_of_input_nil (h : s.input = []) : consume s = .next s := by
  simp [consume, h]

theorem consume_of_input_cons {e : PortEvent} {es : List PortEvent} (h : s.input = e :: es) :
    consume s = perform (decodeEvent s.cfg.syncWord s.pend e) { s with input := es } := by
  simp [consume, h]

theorem step_of_input_nil (hc : configOk s.cfg = true) (hi : s.input = []) :
    step s = .next { s with resp := [], events := [] } := by
  rw [step_of_configOk hc, consume_of_input_nil (by simpa using hi)]
  rfl

theorem step_of_input_cons {e : PortEvent} {es : List PortEvent} (hc : configOk s.cfg = true) (hi : s.input = e :: es) :
    step s = perform (decodeEvent s.cfg.syncWord s.pend e) { s with input := es, resp := [], events := [] } := by
  rw [step_of_configOk hc, consume_of_input_cons (by simpa using hi)]
  rfl

/-! ### Performing an event -/

theorem perform_more (p : List Word) : perform (.more p) s = .next { s with pend := p } := rfl

/-- The reset input acts as SRESET (R350). -/
theorem perform_reset : perform .reset s = exec .sreset s := rfl

/-- The row of a tone runs the symbol tick of that tone. -/
theorem exec_toneInstr (t : Tone) (rnd : Word) (s : State) : exec (toneInstr t rnd) s = symbolTick t rnd s := by
  have ht : t = 0 ∨ t = 1 ∨ t = 2 ∨ t = 3 := by revert t; decide
  rcases ht with rfl | rfl | rfl | rfl <;> rfl

/-- Symbol ticks are the rows of their tones run one after the other, each with the entropy word of its place; a missing
word is 0 (30_encoding.md R130). -/
theorem symbolTicks_eq_runAll (n : Nat) (tone : Nat → Tone) (rnds : List Word) (s : State) :
    symbolTicks ((List.range n).map tone) rnds s =
      runAll ((List.range n).map fun j => toneInstr (tone j) (rnds.getD j 0)) s := by
  induction n generalizing tone rnds s with
  | zero => rfl
  | succ n ih =>
    have hhead : rnds.headD 0 = rnds.getD 0 0 := by cases rnds <;> rfl
    have htail (j : Nat) : rnds.tail.getD j 0 = rnds.getD (j + 1) 0 := by cases rnds <;> rfl
    simp only [List.range_succ_eq_map, List.map_cons, List.map_map, symbolTicks, runAll_cons, exec_toneInstr, hhead]
    congr 1
    funext u
    rw [ih]
    simp only [htail, Function.comp_def]

/-- 96 bits that are no frame run as their 48 symbols (R109). -/
theorem perform_unframed (bits : FrameBits) (rnds : List Word) :
    perform (.unframed bits rnds) s =
      runAll ((List.range 48).map fun j => toneInstr (frameSymbol bits j) (rnds.getD j 0)) s :=
  symbolTicks_eq_runAll 48 (frameSymbol bits) rnds s

/-- Settles O7: each case is the equation of `step` for that input, then the equation of `perform` for what the event
amounts to. -/
theorem stepOnOtherEvents : Obligations.StepOnOtherEvents := by
  unfold Obligations.StepOnOtherEvents
  intro s
  refine ⟨step_of_badConfig, step_of_input_nil, fun e es hc hi => ⟨fun p hp => ?more, ?rst, fun bits rnds hu => ?unframed⟩⟩
  case more => rw [step_of_input_cons hc hi, hp, perform_more]
  case rst =>
    rintro rfl
    rw [step_of_input_cons hc hi, decodeEvent, perform_reset]
  case unframed => rw [step_of_input_cons hc hi, hu, perform_unframed]

end Sys2Proof.Machine
end

section
/-! PROOFS. What the constraints of 00_scope.md R11 bound, constant by constant. -/

namespace Sys2Proof.Machine

variable {c : Params}

theorem toneBin_bounds (h : configOk c = true) :
    2 * (c.toneBin.t0 + 1) ≤ windowLen c ∧ 2 * (c.toneBin.t1 + 1) ≤ windowLen c ∧
    2 * (c.toneBin.t2 + 1) ≤ windowLen c ∧ 2 * (c.toneBin.t3 + 1) ≤ windowLen c := by
  simp only [configOk, timeBaseOk, binOk, Bool.and_eq_true, decide_eq_true_eq] at h
  omega

theorem receiver_bounds (h : configOk c = true) :
    1 ≤ c.lockMin ∧ c.lockMin ≤ 20 ∧ 1 ≤ c.camK ∧ c.camK ≤ 255 ∧ c.cooldownTicks ≤ 63 := by
  simp only [configOk, receiverOk, Bool.and_eq_true, decide_eq_true_eq] at h
  omega

theorem scheduler_bounds (h : configOk c = true) :
    1 ≤ c.csTicks ∧ c.csTicks ≤ 65535 ∧ c.bTicks.t0 ≤ 65535 ∧ c.bTicks.t1 ≤ 65535 ∧ c.bTicks.t2 ≤ 65535 ∧
    c.bTicks.t3 ≤ 65535 ∧ c.retryMin ≤ 65535 ∧ c.retryMax ≤ 65535 ∧ c.refreshTicks ≤ 65536 ∧
    c.refreshJitter ≤ 65536 ∧ c.fsOffset0 ≤ 65535 ∧ c.fsOffset1 ≤ c.fsOffset2 := by
  simp only [configOk, schedulerOk, Bool.and_eq_true, decide_eq_true_eq] at h
  omega

theorem threshold_bounds (h : configOk c = true) :
    c.gateNum ≤ 65535 ∧ c.gateDen ≤ 65535 ∧ c.confNum ≤ 65535 ∧ c.confDen ≤ 65535 ∧ c.camNum ≤ 65535 ∧
    c.camDen ≤ 65535 ∧ c.eps < 2 ^ 32 ∧ c.nfShift ≤ 16 ∧ c.nfInit < 2 ^ 64 := by
  simp only [configOk, thresholdsOk, Bool.and_eq_true, decide_eq_true_eq] at h
  omega

end Sys2Proof.Machine
end

section
/-! PROOFS. What every step keeps: a predicate that each operation of a step keeps is kept by the step. -/

namespace Sys2Proof.Machine

variable {s t : State} {P : State → Prop}

/-! ### What the decoder can answer -/

theorem decodeShort_isCommand (w : Word) : isCommand (decodeShort w) = true := by
  unfold decodeShort formatH0
  repeat' split
  all_goals rfl

theorem decodeLong_isCommand (w0 w1 w2 : Word) : isCommand (decodeLong w0 w1 w2) = true := by
  unfold decodeLong
  split <;> rfl

/-- The words on the command port are a whole command, or the beginning of one that takes three words (R290). -/
theorem decodeWords_cases (ws : List Word) :
    (∃ i, isCommand i = true ∧ decodeWords ws = .instr i []) ∨
    (∃ p, (p.length ≤ 2 ∧ p.head?.all takesPayload = true) ∧ decodeWords ws = .more p) := by
  unfold decodeWords
  split
  case h_1 => exact .inr ⟨[], by simp, rfl⟩
  case h_2 w0 ws =>
    split
    case isTrue hp =>
      split
      case h_1 w1 w2 _ => exact .inl ⟨_, decodeLong_isCommand w0 w1 w2, rfl⟩
      case h_2 hshort =>
        refine .inr ⟨w0 :: ws, ⟨?_, by simpa using hp⟩, rfl⟩
        match ws, hshort with
        | [], _ => simp
        | [_], _ => simp
        | w1 :: w2 :: rest, hshort => exact absurd rfl (hshort w1 w2 rest)
    case isFalse => exact .inl ⟨_, decodeShort_isCommand w0, rfl⟩

/-- The event is a reset: the input `rst`, or the word that completes SRESET (R350). -/
def resets (sync : BitVec 16) (pend : List Word) (e : PortEvent) : Prop :=
  e = .rst ∨ ∃ p, decodeEvent sync pend e = .instr .sreset p

/-! ### Operation by operation -/

/-- `P` holds after each operation a step is made of, but a reset, if it held before. `ports` says that `P` does not look
at the activation, the record, the sticky flags, the window or the ports. -/
structure KeptByOperations (P : State → Prop) : Prop where
  ports : ∀ (s : State) act out st win input resp events, P s →
    P { s with act := act, out := out, st := st, win := win, input := input, resp := resp, events := events }
  held : ∀ (s : State) p, P s → portHoldsPrefix { s with pend := p } → P { s with pend := p }
  clock : ∀ s : State, P s → s.now + 1 < 2 ^ s.cfg.wNow → P { s with now := s.now + 1 }
  analyze : ∀ s, P s → P (analyze s)
  decision : ∀ (s : State) v c, P s → (v = false → c = 0) → P { s with sd := ⟨v, c⟩ }
  monitor : ∀ s, P s → P (monitor s)
  receive : ∀ s t, P s → rxStep s.sd.valid s.sd.tone s = .next t → P t
  noiseFloor : ∀ s, P s → P (nfUpdate s)
  enqueue : ∀ s d prio, P s → P (enqueue d prio s)
  transmit : ∀ s rs, P s → P (txStep (schStep rs s))

namespace KeptByOperations

variable (hk : KeptByOperations P)
include hk

theorem raise (e : Event) (hs : P s) : P (raise e s) := hk.ports s s.act s.out s.st s.win s.input s.resp _ hs

theorem actStep (rj : BitVec 16) (hs : P s) : P (actStep rj s) := by
  unfold Machine.actStep
  split
  · exact hs
  · split
    · exact hk.ports (Machine.enqueue s.act.tmpl s.act.prio s) _ _ _ _ _ _ _ (hk.enqueue s _ _ hs)
    · exact hk.ports s _ _ _ _ _ _ _ hs

theorem decideSymbol (obs : Bool) (hs : P s) : P (decideSymbol obs s) := by
  unfold Machine.decideSymbol decideObserved
  repeat' split
  · exact hk.decision s true _ hs (by simp)
  · exact hk.raise .reject (hk.decision s false 0 hs fun _ => rfl)
  · exact hk.decision s false 0 hs fun _ => rfl

theorem tickFront (obs : Bool) (hs : P s) : P (tickFront obs s) := by
  unfold Machine.tickFront
  split
  · exact hk.monitor _ (hk.decideSymbol true (hk.analyze s hs))
  · exact hk.decideSymbol false hs

theorem tickTail {obs : Bool} {rnd : Word} (hs : P s) (h : tickTail obs rnd s = .next t) : P t := by
  obtain ⟨u, hu, ht⟩ := andThen_eq_next.1 h
  injection ht with ht
  have hrx : P u := hk.receive s u hs hu
  have hnf : P (if obs then nfUpdate u else u) := by
    split
    · exact hk.noiseFloor u hrx
    · exact hrx
  exact ht ▸ hk.transmit _ _ (hk.actStep _ hnf)

theorem tick {winOk : Bool} {rnd : Word} (hs : P s) (h : tick winOk rnd s = .next t) : P t := by
  obtain ⟨u, hu, ht⟩ := andThen_eq_next.1 h
  obtain ⟨hfit, rfl⟩ := advanceClock_eq_next.1 hu
  have hclock := hk.clock s hs hfit
  refine hk.tickTail (hk.tickFront _ ?_) ht
  split
  · exact hclock
  · exact hk.raise .gap hclock

theorem symbolTick {c : Tone} {rnd : Word} (hs : P s) (h : symbolTick c rnd s = .next t) : P t := by
  obtain ⟨u, hu, ht⟩ := andThen_eq_next.1 h
  obtain ⟨hfit, rfl⟩ := advanceClock_eq_next.1 hu
  have hclock := hk.clock s hs hfit
  refine hk.tickTail ?_ ht
  split
  · exact hk.decision _ false 0 hclock fun _ => rfl
  · exact hk.decision _ true c hclock (by simp)

theorem symbolTicks {tones : List Tone} {rnds : List Word} (hs : P s) (h : symbolTicks tones rnds s = .next t) : P t := by
  induction tones generalizing rnds s with
  | nil => cases h; exact hs
  | cons c tones ih =>
    obtain ⟨u, hu, ht⟩ := andThen_eq_next.1 h
    exact ih (hk.symbolTick hs hu) ht

theorem command {i : Instr} (hi : isCommand i = true) (hr : i = .sreset → P (resetMachine s)) (hs : P s)
    (h : exec i s = .next t) : P t := by
  cases i
  case nop => cases h; exact hs
  case rdreg addr =>
    simp only [exec, execRdreg] at h
    split at h <;> cases h <;> exact hk.ports s _ _ _ _ _ _ _ hs
  case submit prio d => cases h; exact hk.enqueue s d prio hs
  case popf =>
    simp only [exec, execPopf] at h
    split at h <;> cases h <;> exact hk.ports s _ _ _ _ _ _ _ hs
  case sreset => cases h; exact hr rfl
  case activate | deactivate | qinh | qlast | clrf | illegal => cases h; exact hk.ports s _ _ _ _ _ _ _ hs
  all_goals simp [isCommand] at hi

/-- One event, whatever it amounts to. -/
theorem event {e : PortEvent}
    (hr : resets s.cfg.syncWord s.pend e → ∀ u, u.cfg = s.cfg → P u → P (resetMachine u)) (hs : P s)
    (h : perform (decodeEvent s.cfg.syncWord s.pend e) s = .next t) : P t := by
  cases e
  case rst => cases h; exact hr (.inl rfl) s rfl hs
  case word w =>
    have hd : decodeEvent s.cfg.syncWord s.pend (.word w) = decodeWords (s.pend ++ [w]) := rfl
    obtain ⟨i, hi, he⟩ | ⟨p, hp, he⟩ := decodeWords_cases (s.pend ++ [w])
    · have hidle : P { s with pend := [] } := hk.held s [] hs (by simp [portHoldsPrefix])
      rw [hd, he] at h
      refine hk.command hi (fun hsr => ?_) hidle h
      exact hr (.inr ⟨[], by rw [hd, he, hsr]⟩) { s with pend := [] } rfl hidle
    · rw [hd, he] at h
      cases h
      exact hk.held s p hs hp
  case tick winOk win rnd =>
    simp only [decodeEvent, decodeTick] at h
    split at h
    · exact hk.tick (hk.ports s _ _ _ win _ _ _ hs) h
    · exact hk.tick (hk.ports s _ _ _ [] _ _ _ hs) h
  case symbol dibit rnd => exact hk.symbolTick hs ((exec_toneInstr (toneOf dibit) rnd s).symm.trans h)
  case frame bits rnds =>
    simp only [decodeEvent] at h
    split at h <;> exact hk.symbolTicks hs h

/-- A step keeps what its operations keep; where the event is a reset, what the reset keeps. -/
theorem step
    (hr : ∀ e es, s.input = e :: es → resets s.cfg.syncWord s.pend e →
      ∀ u, u.cfg = s.cfg → P u → P (resetMachine u))
    (hs : P s) (h : step s = .next t) : P t := by
  cases hc : configOk s.cfg
  case false => simp [step_of_badConfig hc] at h
  case true =>
    cases hi : s.input with
    | nil =>
      rw [step_of_input_nil hc hi] at h
      cases h
      exact hk.ports s _ _ _ _ _ _ _ hs
    | cons e es =>
      rw [step_of_input_cons hc hi] at h
      exact hk.event (s := { s with input := es, resp := [], events := [] }) (hr e es hi) (hk.ports s _ _ _ _ _ _ _ hs) h

end KeptByOperations

theorem configOk_of_step (h : step s = .next t) : configOk s.cfg = true := by
  cases hc : configOk s.cfg
  case false => simp [step_of_badConfig hc] at h
  case true => rfl

end Sys2Proof.Machine
end

section
/-! PROOFS. What each operation does to the registers the invariants speak of. -/

namespace Sys2Proof.Machine

variable {s t : State}

/-! ### Analyzer -/

theorem signedFits_zero (w : Nat) : signedFits w 0 := by
  have : (0 : Int) < 2 ^ (w - 1) := by positivity
  unfold signedFits
  omega

/-- Every turn of the recurrence wraps its new value and shifts the old one down. -/
theorem goertzelTurn_fits {w : Nat} {coeff : BitVec 16} {r : Recurrence} {x : Int} (h : signedFits w r.s1) :
    signedFits w (goertzelTurn w coeff r x).s1 ∧ signedFits w (goertzelTurn w coeff r x).s2 :=
  ⟨wrapSigned_fits w _, h⟩

theorem foldl_goertzelTurn_fits {w : Nat} {coeff : BitVec 16} (xs : List Int) {r : Recurrence}
    (h : signedFits w r.s1 ∧ signedFits w r.s2) :
    signedFits w (xs.foldl (goertzelTurn w coeff) r).s1 ∧ signedFits w (xs.foldl (goertzelTurn w coeff) r).s2 := by
  induction xs generalizing r with
  | nil => exact h
  | cons x xs ih => exact ih (goertzelTurn_fits h.1)

theorem toneRecurrence_fits (s : State) (c : Tone) :
    signedFits s.cfg.wAcc (toneRecurrence s c).s1 ∧ signedFits s.cfg.wAcc (toneRecurrence s c).s2 :=
  foldl_goertzelTurn_fits _ ⟨signedFits_zero _, signedFits_zero _⟩

theorem energyFrom_lt (s : State) (c : Tone) (r : Recurrence) : energyFrom s c r < 2 ^ s.cfg.wE := saturated_lt _ _

/-- The four elements of an array have a property when each of them has it. -/
theorem forall_get_of_each {α : Type} {p : α → Prop} {f : Four α} (h0 : p f.t0) (h1 : p f.t1) (h2 : p f.t2) (h3 : p f.t3)
    (c : Tone) : p (f.get c) := by
  unfold Four.get
  repeat' split
  all_goals assumption

theorem analyze_fits (s : State) : analyzerFits (analyze s) := fun c =>
  ⟨forall_get_of_each (toneRecurrence_fits s 0).1 (toneRecurrence_fits s 1).1 (toneRecurrence_fits s 2).1
      (toneRecurrence_fits s 3).1 c,
    forall_get_of_each (toneRecurrence_fits s 0).2 (toneRecurrence_fits s 1).2 (toneRecurrence_fits s 2).2
      (toneRecurrence_fits s 3).2 c,
    forall_get_of_each (p := (· < 2 ^ s.cfg.wE)) (energyFrom_lt s 0 _) (energyFrom_lt s 1 _) (energyFrom_lt s 2 _)
      (energyFrom_lt s 3 _) c⟩

/-- Four energies of at most 62 bits have a sum of at most 64 (10_state.md R23). -/
theorem analyze_totalIsSum (s : State) : totalIsSum (analyze s) := by
  intro hw
  have hp : 2 ^ s.cfg.wE ≤ 2 ^ 62 := Nat.pow_le_pow_right (by norm_num) hw
  have h0 := energyFrom_lt s 0 (toneRecurrence s 0)
  have h1 := energyFrom_lt s 1 (toneRecurrence s 1)
  have h2 := energyFrom_lt s 2 (toneRecurrence s 2)
  have h3 := energyFrom_lt s 3 (toneRecurrence s 3)
  exact totalOf_toNat (e := (analyze s).an.energy) (by simp only [analyze]; omega)

/-! ### Monitor and noise floor -/

/-- A counter below its greatest value counts on. -/
theorem toNat_add_one {w : Nat} {x : BitVec w} (h : x.toNat + 1 < 2 ^ w) : (x + 1).toNat = x.toNat + 1 := by
  have hone : (1 : BitVec w).toNat = 1 := (BitVec.toNat_ofNat 1 w).trans (Nat.mod_eq_of_lt (by omega))
  rw [BitVec.toNat_add_of_lt (by omega), hone]

/-- `cam.cnt` counts below CAM_K and goes to 0 there (R176). -/
theorem monitor_cam_cnt_lt (hc : configOk s.cfg = true) : (monitor s).cam.cnt.toNat < s.cfg.camK := by
  obtain ⟨-, -, hk1, hk255, -⟩ := receiver_bounds hc
  unfold monitor
  repeat' split
  · exact hk1
  · next hbelow =>
    have hnext : (s.cam.cnt + 1).toNat = s.cam.cnt.toNat + 1 := toNat_add_one (by omega)
    exact hnext ▸ Nat.lt_of_not_le hbelow
  · exact hk1

/-- A leaky sum with inputs of at most `m` stays at or below `m × p`, where a `p`-th of it leaks away. -/
theorem leak_add_le {a m x p : Nat} (hp : 0 < p) (ha : a ≤ m * p) (hx : x ≤ m) : a - a / p + x ≤ m * p := by
  have hle : a / p ≤ a := Nat.div_le_self a p
  by_cases hq : m ≤ a / p
  · omega
  · obtain ⟨d, hd⟩ : ∃ d, m = a / p + 1 + d := ⟨m - (a / p + 1), by omega⟩
    obtain ⟨r, rfl⟩ : ∃ r, p = 1 + r := ⟨p - 1, by omega⟩
    have hlt : a < (a / (1 + r) + 1) * (1 + r) := Nat.lt_mul_of_div_lt (Nat.lt_succ_self _) hp
    have hm : m * (1 + r) = (a / (1 + r) + 1) * (1 + r) + d + d * r := by rw [hd]; ring
    omega

/-- "`nf.acc` never exceeds (2^64 − 1) × 2^NF_SHIFT" (R172). -/
theorem nfUpdate_fits (h : noiseFloorFits s) : (nfUpdate s).nfAcc.toNat ≤ (2 ^ 64 - 1) * 2 ^ s.cfg.nfShift := by
  unfold nfUpdate
  split
  · have hleak := leak_add_le (Nat.two_pow_pos s.cfg.nfShift) h (Nat.le_sub_one_of_lt s.an.total.isLt)
    simp only [nfNext, BitVec.toNat_ofNat, Nat.shiftRight_eq_div_pow]
    exact (Nat.mod_le _ _).trans ((Nat.mod_le _ _).trans hleak)
  · exact h

/-! ### Receiver -/

theorem rxCntBounded_of_idle (h : s.rx.state = .idle) (hcnt : s.rx.cnt = 0) : rxCntBounded s := by
  simp [rxCntBounded, h, hcnt]

theorem rxCntBounded_of_sync (h : s.rx.state = .sync) (hcnt : s.rx.cnt.toNat ≤ 7) : rxCntBounded s := by
  simp [rxCntBounded, h, hcnt]

theorem rxCntBounded_of_payload (h : s.rx.state = .payload) (hcnt : s.rx.cnt.toNat ≤ 39) : rxCntBounded s := by
  simp [rxCntBounded, h, hcnt]

theorem rxCntBounded_of_cooldown (h : s.rx.state = .cooldown)
    (hcnt : 1 ≤ s.rx.cnt.toNat ∧ s.rx.cnt.toNat ≤ s.cfg.cooldownTicks) : rxCntBounded s := by
  simpa [rxCntBounded, h] using hcnt

theorem enterCooldown_rxCntBounded (hc : configOk s.cfg = true) : rxCntBounded (enterCooldown s) := by
  obtain ⟨-, -, -, -, hcd⟩ := receiver_bounds hc
  unfold enterCooldown
  split
  · exact rxCntBounded_of_idle rfl rfl
  · have hcnt : (BitVec.ofNat 6 s.cfg.cooldownTicks).toNat = s.cfg.cooldownTicks := Nat.mod_eq_of_lt (by omega)
    refine rxCntBounded_of_cooldown rfl ?_
    rw [setRx_rx_cnt, setRx_cfg, hcnt]
    omega

theorem rxIdle_rxCntBounded (hstate : s.rx.state = .idle) (h : rxCntBounded s) : rxCntBounded (rxIdle s) := by
  unfold rxIdle
  split
  · exact rxCntBounded_of_sync rfl (Nat.zero_le 7)
  · exact rxCntBounded_of_idle hstate (BitVec.eq_of_toNat_eq (h.1 hstate))

theorem rxSync_rxCntBounded (v : Bool) (c : Tone) (hstate : s.rx.state = .sync) (h : rxCntBounded s) :
    rxCntBounded (rxSync v c s) := by
  obtain ⟨-, hsync, -, -⟩ := h
  have hle := hsync hstate
  unfold rxSync
  split
  · exact rxCntBounded_of_idle rfl rfl
  · split
    · exact rxCntBounded_of_idle rfl rfl
    · split
      · exact rxCntBounded_of_payload rfl (Nat.zero_le 39)
      · next hne =>
        have hne7 : s.rx.cnt.toNat ≠ 7 := fun h7 => hne (BitVec.eq_of_toNat_eq h7)
        have hnext : (s.rx.cnt + 1).toNat = s.rx.cnt.toNat + 1 := toNat_add_one (by omega)
        exact rxCntBounded_of_sync hstate (hnext.trans_le (by omega))

theorem rxCooldown_rxCntBounded (hstate : s.rx.state = .cooldown) (h : rxCntBounded s) : rxCntBounded (rxCooldown s) := by
  obtain ⟨-, -, -, hcool⟩ := h
  have hle := hcool hstate
  unfold rxCooldown
  split
  · exact rxCntBounded_of_idle rfl rfl
  · have hprev : (s.rx.cnt - 1).toNat = s.rx.cnt.toNat - 1 := BitVec.toNat_sub_of_le (by bv_omega)
    refine rxCntBounded_of_cooldown hstate ?_
    dsimp only
    omega

theorem rxCheck_rxCntBounded {b : BitVec 80} (hc : configOk s.cfg = true) (h : rxCheck b s = .next t) : rxCntBounded t := by
  unfold rxCheck at h
  split at h
  · obtain ⟨u, hu, ht⟩ := andThen_eq_next.1 h
    injection ht with ht
    have hcfg : u.cfg = s.cfg := by rw [emit_changes hu]
    exact ht ▸ enterCooldown_rxCntBounded (hcfg ▸ hc)
  · injection h with h
    exact h ▸ rxCntBounded_of_idle rfl rfl

theorem rxPayload_rxCntBounded {v : Bool} {c : Tone} (hc : configOk s.cfg = true) (hstate : s.rx.state = .payload)
    (hb : rxCntBounded s) (h : rxPayload v c s = .next t) : rxCntBounded t := by
  obtain ⟨-, -, hpay, -⟩ := hb
  have hle := hpay hstate
  unfold rxPayload at h
  split at h
  · injection h with h
    exact h ▸ rxCntBounded_of_idle rfl rfl
  · split at h
    · exact rxCheck_rxCntBounded (s := setBits (pushDibit s.rx.bits c) s) hc h
    · next hne =>
      injection h with h
      have hne39 : s.rx.cnt.toNat ≠ 39 := fun h39 => hne (BitVec.eq_of_toNat_eq h39)
      have hnext : (s.rx.cnt + 1).toNat = s.rx.cnt.toNat + 1 := toNat_add_one (by omega)
      exact h ▸ rxCntBounded_of_payload hstate (hnext.trans_le (by omega))

theorem rxStep_rxCntBounded {v : Bool} {c : Tone} (hc : configOk s.cfg = true) (hb : rxCntBounded s)
    (h : rxStep v c s = .next t) : rxCntBounded t := by
  have hb' : rxCntBounded (shiftIn v c s) := hb
  unfold rxStep rxArm at h
  split at h
  case h_1 hstate => injection h with h; exact h ▸ rxIdle_rxCntBounded hstate hb'
  case h_2 hstate => injection h with h; exact h ▸ rxSync_rxCntBounded v c hstate hb'
  case h_3 hstate => exact rxPayload_rxCntBounded (s := shiftIn v c s) hc hstate hb' h
  case h_4 hstate => injection h with h; exact h ▸ rxCooldown_rxCntBounded hstate hb'

theorem rxStep_hist {v : Bool} {c : Tone} (h : rxStep v c s = .next t) : t.rx.hist = shiftHist s.rx.hist ⟨v, c⟩ := by
  unfold rxStep rxArm at h
  split at h
  · injection h with h; rw [← h, rxIdle_changes]; rfl
  · injection h with h; rw [← h, rxSync_changes]; rfl
  · rw [rxPayload_changes h]; rfl
  · injection h with h; rw [← h, rxCooldown_changes]; rfl

/-- A clean symbol shifted into a clean history leaves it clean (10_state.md R60 (c)). -/
theorem shiftHist_clean {hist : Vector Symbol 20} {y : Symbol} (hy : y.valid = false → y.tone = 0)
    (h : ∀ x ∈ hist.toList, x.valid = false → x.tone = 0) :
    ∀ x ∈ (shiftHist hist y).toList, x.valid = false → x.tone = 0 := by
  intro x hx
  rw [shiftHist_toList, List.mem_append, List.mem_singleton] at hx
  obtain hx | rfl := hx
  · exact h x (List.mem_of_mem_tail hx)
  · exact hy

/-! ### Ledger -/

/-- From `s` to `t` the ledger stayed, or LEDGER ran once with a deadline that fits (45 R231). -/
def ledgerStep (s t : State) : Prop :=
  t.led = s.led ∨ ∃ deviceId reason ttl, ledgerUntil ttl s < 2 ^ s.cfg.wNow ∧
    t.led = ⟨true, max s.led.inhibitUntil (ledgerUntil ttl s), deviceId, reason, s.now⟩

theorem emit_ledgerStep {d : DataWord} (h : emit d s = .next t) : ledgerStep s t := by
  obtain ⟨u, hu, rfl⟩ := emit_eq_next.1 h
  rw [emitRecord_changes] at hu
  obtain ⟨hfit, rfl⟩ := ledger_eq_next.1 hu
  exact .inr ⟨_, _, _, hfit, rfl⟩

theorem rxCheck_ledgerStep {b : BitVec 80} (h : rxCheck b s = .next t) : ledgerStep s t := by
  unfold rxCheck at h
  split at h
  · obtain ⟨u, hu, ht⟩ := andThen_eq_next.1 h
    injection ht with ht
    have hled : t.led = u.led := by rw [← ht, enterCooldown_changes]
    simpa only [ledgerStep, hled] using emit_ledgerStep hu
  · injection h with h
    exact .inl (h ▸ rfl)

theorem rxStep_ledgerStep {v : Bool} {c : Tone} (h : rxStep v c s = .next t) : ledgerStep s t := by
  unfold rxStep rxArm at h
  split at h
  · injection h with h; exact .inl (by rw [← h, rxIdle_changes]; rfl)
  · injection h with h; exact .inl (by rw [← h, rxSync_changes]; rfl)
  · unfold rxPayload at h
    split at h
    · injection h with h; exact .inl (h ▸ rfl)
    · split at h
      · exact rxCheck_ledgerStep (s := setBits (pushDibit s.rx.bits c) (shiftIn v c s)) h
      · injection h with h; exact .inl (h ▸ rfl)
  · injection h with h; exact .inl (by rw [← h, rxCooldown_changes]; rfl)

theorem ledgerStep.inhibitUntil_le (h : ledgerStep s t) : s.led.inhibitUntil ≤ t.led.inhibitUntil := by
  obtain h | ⟨_, _, _, -, h⟩ := h <;> simp [h]

theorem ledgerStep.fresh (hf : ledgerFresh s) (h : ledgerStep s t) : ledgerFresh t := by
  obtain h | ⟨_, _, _, -, h⟩ := h
  · simpa only [ledgerFresh, h] using hf
  · simp [ledgerFresh, h]

theorem ledgerStep.times_lt (hf : timesFit s) (h : ledgerStep s t) :
    t.led.inhibitUntil < 2 ^ s.cfg.wNow ∧ t.led.lastSeen < 2 ^ s.cfg.wNow := by
  obtain ⟨hnow, huntil, hseen⟩ := hf
  obtain h | ⟨_, _, _, hfit, h⟩ := h
  · exact ⟨h ▸ huntil, h ▸ hseen⟩
  · rw [h]
    exact ⟨max_lt huntil hfit, hnow⟩

/-! ### Scheduler and transmitter -/

/-- A state of the scheduler in which a request waits for its turn. -/
abbrev awaitsTurn (st : SchState) : Prop := st = .wait ∨ st = .backoff ∨ st = .retry

/-- ENQUEUE drops the request, or stores it; then the scheduler starts the attempt afresh, or goes on as it was, which in
S_NONE it does only with a request there already. -/
theorem enqueue_cases (d : DataWord) (prio : BitVec 2) (s : State) :
    enqueue d prio s = s ∨ ∃ sch, enqueue d prio s = { s with slot := ⟨true, prio, d⟩, sch := sch } ∧
      (sch = s.sch ∧ (s.sch.state = .none → s.slot.valid = true) ∨
        s.sch.state ≠ .tx ∧ sch = { s.sch with state := .wait, cnt := 0 }) := by
  unfold enqueue
  split
  case isTrue hempty =>
    dsimp only
    split
    case isTrue hnone => exact .inr ⟨_, rfl, .inr ⟨by simp [hnone], rfl⟩⟩
    case isFalse hnone => exact .inr ⟨_, rfl, .inl ⟨rfl, fun hn => absurd hn hnone⟩⟩
  case isFalse hfull =>
    split
    case isTrue =>
      dsimp only
      split
      case isTrue hturn => exact .inr ⟨_, rfl, .inr ⟨by rintro htx; simp [htx] at hturn, rfl⟩⟩
      case isFalse => exact .inr ⟨_, rfl, .inl ⟨rfl, fun _ => by simpa using hfull⟩⟩
    case isFalse => exact .inl rfl

/-- SCH.WAIT keeps its counter below CS_TICKS, or goes on to S_BACKOFF. -/
theorem schWait_cases (rs : BitVec 16) (hc : configOk s.cfg = true) :
    ∃ st cnt, schWait rs s = setSch st cnt s ∧
      (st = .backoff ∨ st = s.sch.state ∧ cnt.toNat + 1 ≤ s.cfg.csTicks) := by
  obtain ⟨hcs, hcs', -⟩ := scheduler_bounds hc
  unfold schWait
  split
  · exact ⟨_, _, rfl, .inr ⟨rfl, by simpa using hcs⟩⟩
  · split
    · exact ⟨_, _, rfl, .inl rfl⟩
    · refine ⟨_, _, rfl, .inr ⟨rfl, ?_⟩⟩
      rw [toNat_add_one (by omega)]
      omega

/-- SCHSTEP stands still, hands off from S_BACKOFF, or goes from a state that awaits its turn to another, with `sch.cnt`
below CS_TICKS in S_WAIT (R260). -/
theorem schStep_cases (rs : BitVec 16) (hc : configOk s.cfg = true) :
    schStep rs s = s ∨ (s.sch.state = .backoff ∧ schStep rs s = schHandoff s) ∨
    (awaitsTurn s.sch.state ∧ ∃ sch events, schStep rs s = { s with sch := sch, events := events } ∧
      awaitsTurn sch.state ∧ (sch.state = .wait → sch.cnt.toNat + 1 ≤ s.cfg.csTicks)) := by
  obtain ⟨hcs, -⟩ := scheduler_bounds hc
  unfold schStep
  split
  case h_1 => exact .inl rfl
  case h_2 hwait =>
    obtain ⟨st, cnt, heq, hst⟩ := schWait_cases rs hc
    refine .inr (.inr ⟨.inl hwait, _, _, heq, ?_⟩)
    obtain rfl | ⟨rfl, hcnt⟩ := hst
    · exact ⟨.inr (.inl rfl), by simp⟩
    · exact ⟨.inl hwait, fun _ => hcnt⟩
  case h_3 hback =>
    split
    · exact .inr (.inr ⟨.inr (.inl hback), _, _, rfl, .inr (.inr rfl), by simp⟩)
    · split
      · exact .inr (.inl ⟨hback, rfl⟩)
      · unfold schBackoff
        split
        · exact .inr (.inr ⟨.inr (.inl hback), _, _, rfl, .inr (.inl hback), by simp [hback]⟩)
        · exact .inl rfl
  case h_4 hretry =>
    unfold schRetry
    split
    case isTrue hzero => exact .inr (.inr ⟨.inr (.inr hretry), _, _, rfl, .inl rfl, fun _ => by simpa [hzero] using hcs⟩)
    case isFalse => exact .inr (.inr ⟨.inr (.inr hretry), _, _, rfl, .inr (.inr hretry), by simp [hretry]⟩)
  case h_5 => exact .inl rfl

/-- TXSTEP keeps the port silent, sends the next symbol, or finishes (R244). -/
theorem txStep_cases (s : State) :
    (s.tx.active = false ∧ txStep s = { s with tx := { s.tx with en := false, tone := 0 } }) ∨
    (s.tx.active = true ∧ s.tx.idx.toNat ≤ 67 ∧ txStep s = txOutput s) ∨
    (s.tx.active = true ∧ txStep s = txDone s) := by
  unfold txStep
  split
  case isTrue h => exact .inl ⟨h, rfl⟩
  case isFalse h =>
    have hactive : s.tx.active = true := by simpa using h
    split
    case isTrue hidx => exact .inr (.inl ⟨hactive, hidx, rfl⟩)
    case isFalse => exact .inr (.inr ⟨hactive, rfl⟩)

/-- TXDONE's writes, the receiver's being those of the cooldown (R245). -/
theorem txDone_eq (s : State) : txDone s =
    { s with
      rx := (enterCooldown (txStop s)).rx
      tx := { s.tx with active := false, idx := 0, en := false, tone := 0 }
      sch := { s.sch with state := if s.slot.valid then .wait else .none, cnt := 0 }
      events := s.events ++ [(s.now, .txDone)] } := by
  unfold txDone
  rw [enterCooldown_changes]
  rfl

/-- The data word stands between the sync word and the CRC (R241). -/
theorem encodeData_data (c : Params) (d : DataWord) : (encodeData c d).extractLsb' 16 64 = d :=
  calc (encodeData c d).extractLsb' 16 64
    _ = (c.syncWord ++ d).extractLsb' 0 64 := BitVec.extractLsb'_append_eq_of_le (le_refl 16)
    _ = d := BitVec.extractLsb'_append_eq_right

theorem txStep_portFollowsTx (s : State) : portFollowsTx (txStep s) := by
  obtain ⟨hoff, heq⟩ | ⟨hon, -, heq⟩ | ⟨-, heq⟩ := txStep_cases s <;> rw [heq]
  · exact ⟨hoff.symm, fun _ => rfl⟩
  · exact ⟨hon.symm, by simp⟩
  · rw [txDone_eq]
    exact ⟨rfl, fun _ => rfl⟩

end Sys2Proof.Machine
end

section
/-! PROOFS. The invariants of 10_state.md, operation by operation. -/

namespace Sys2Proof.Machine

variable {c : Params} {s t : State}

/-! ### The invariant of R60 -/

/-- The invariant of R60, with the record `c` in force. -/
structure InvariantUnder (c : Params) (s : State) : Prop where
  cfg : s.cfg = c
  active : activeInTx s
  slot : slotMatches s
  symbols : symbolsClean s
  total : totalIsSum s
  rxCnt : rxCntBounded s
  camCnt : camCntBounded s
  txIdx : txIdxBounded s

theorem invariantUnder_iff : InvariantUnder c s ↔ s.cfg = c ∧ Inv s :=
  ⟨fun h => ⟨h.cfg, h.active, h.slot, h.symbols, h.total, h.rxCnt, h.camCnt, h.txIdx⟩,
    fun ⟨hcfg, ha, hs, hy, ht, hr, hm, hx⟩ => ⟨hcfg, ha, hs, hy, ht, hr, hm, hx⟩⟩

namespace InvariantUnder

theorem configOk_cfg (hc : configOk c = true) (h : InvariantUnder c s) : configOk s.cfg = true := h.cfg ▸ hc

theorem receive (hc : configOk c = true) (h : InvariantUnder c s) (hr : rxStep s.sd.valid s.sd.tone s = .next t) :
    InvariantUnder c t := by
  have hcnt := rxStep_rxCntBounded (h.configOk_cfg hc) h.rxCnt hr
  have hhist := rxStep_hist hr
  obtain ⟨hsd, hclean⟩ := h.symbols
  have hnew := shiftHist_clean (y := ⟨s.sd.valid, s.sd.tone⟩) hsd hclean
  have heq := rxStep_changes hr
  rw [heq] at hcnt ⊢
  exact { h with symbols := ⟨hsd, hhist ▸ hnew⟩, rxCnt := hcnt }

theorem enqueue (d : DataWord) (prio : BitVec 2) (h : InvariantUnder c s) : InvariantUnder c (enqueue d prio s) := by
  obtain heq | ⟨sch, heq, hsch⟩ := enqueue_cases d prio s <;> rw [heq]
  · exact h
  · obtain ⟨rfl, hnone⟩ | ⟨htx, rfl⟩ := hsch
    · have hne : s.sch.state ≠ .none := fun hn => by simpa [h.slot.1 hn] using hnone hn
      exact { h with slot := ⟨fun hn => absurd hn hne, fun _ => rfl⟩ }
    · have hoff : ¬ s.tx.active = true := fun hon => htx (h.active.1 hon)
      exact { h with active := by simpa [activeInTx] using hoff, slot := by simp [slotMatches] }

theorem schStep (rs : BitVec 16) (hc : configOk c = true) (h : InvariantUnder c s) : InvariantUnder c (schStep rs s) := by
  obtain heq | ⟨-, heq⟩ | ⟨hturn, sch, events, heq, hturn', -⟩ := schStep_cases rs (h.configOk_cfg hc) <;> rw [heq]
  · exact h
  · exact { h with
      active := by simp [activeInTx, schHandoff]
      slot := by simp [slotMatches, schHandoff]
      txIdx := by simp [txIdxBounded, schHandoff] }
  · have hoff : ¬ s.tx.active = true := fun hon => by simp [awaitsTurn, h.active.1 hon] at hturn
    have hne : sch.state ≠ .tx ∧ sch.state ≠ .none := by
      obtain hw | hw | hw := hturn' <;> simp [hw]
    exact { h with
      active := by simpa [activeInTx, hne.1] using hoff
      slot := ⟨fun hn => absurd hn hne.2, fun _ => h.slot.2 hturn⟩ }

theorem txStep (hc : configOk c = true) (h : InvariantUnder c s) : InvariantUnder c (txStep s) := by
  obtain ⟨-, heq⟩ | ⟨hon, hidx, heq⟩ | ⟨-, heq⟩ := txStep_cases s <;> rw [heq]
  · exact { h with }
  · have hnext : (s.tx.idx + 1).toNat = s.tx.idx.toNat + 1 := toNat_add_one (by omega)
    exact { h with txIdx := ⟨by rw [txOutput_tx_idx, hnext]; omega, by simp [hon]⟩ }
  · have hok := h.configOk_cfg hc
    have hcnt : rxCntBounded (enterCooldown (txStop s)) := enterCooldown_rxCntBounded hok
    rw [enterCooldown_changes] at hcnt
    have hhist : (enterCooldown (txStop s)).rx.hist = s.rx.hist := by rw [enterCooldown_changes]; rfl
    rw [txDone_eq]
    obtain ⟨hsd, hclean⟩ := h.symbols
    exact { h with
      active := by cases s.slot.valid <;> simp [activeInTx]
      slot := by cases hv : s.slot.valid <;> simp [slotMatches, hv]
      symbols := ⟨hsd, hhist ▸ hclean⟩
      rxCnt := hcnt
      txIdx := by simp [txIdxBounded] }

theorem resetMachine (hc : configOk c = true) (h : s.cfg = c) : InvariantUnder c (resetMachine s) := by
  obtain ⟨-, -, hcam, -⟩ := receiver_bounds (h ▸ hc : configOk s.cfg = true)
  exact {
    cfg := h
    active := by simp [activeInTx, resetState]
    slot := by simp [slotMatches, resetState]
    symbols := by simp [symbolsClean, resetState]
    total := by simp [totalIsSum, resetState]
    rxCnt := rxCntBounded_of_idle rfl rfl
    camCnt := hcam
    txIdx := by simp [txIdxBounded, resetState] }

theorem kept (hc : configOk c = true) : KeptByOperations (InvariantUnder c) where
  ports _ _ _ _ _ _ _ _ h := { h with }
  held _ _ h _ := { h with }
  clock _ h _ := { h with }
  analyze s h := { h with total := analyze_totalIsSum s }
  decision _ _ _ h hclean := { h with symbols := ⟨hclean, h.symbols.2⟩ }
  monitor s h := by
    have hcnt := monitor_cam_cnt_lt (h.configOk_cfg hc)
    rw [monitor_changes]
    exact { h with camCnt := hcnt }
  receive _ _ h hr := h.receive hc hr
  noiseFloor s h := by
    rw [nfUpdate_changes]
    exact { h with }
  enqueue _ d prio h := h.enqueue d prio
  transmit _ rs h := (h.schStep rs hc).txStep hc

end InvariantUnder

/-- Settles O53: every operation keeps the invariant and the record, a reset gives the invariant. -/
theorem stepKeepsInvariant : Obligations.StepKeepsInvariant := by
  unfold Obligations.StepKeepsInvariant
  intro s t hinv h
  have hc := configOk_of_step h
  have ht : InvariantUnder s.cfg t :=
    (InvariantUnder.kept hc).step (fun _ _ _ _ u hu _ => InvariantUnder.resetMachine hc hu)
      (invariantUnder_iff.2 ⟨rfl, hinv⟩) h
  exact (invariantUnder_iff.1 ht).symm

/-! ### The ranges of the other registers -/

/-- The further invariants, with the record `c` in force. -/
structure RangesUnder (c : Params) (s : State) : Prop where
  cfg : s.cfg = c
  analyzer : analyzerFits s
  times : timesFit s
  noiseFloor : noiseFloorFits s
  schCnt : schCntBounded s
  frame : sentFrameEncoded s
  held : portHoldsPrefix s
  ledger : ledgerFresh s

namespace RangesUnder

theorem configOk_cfg (hc : configOk c = true) (h : RangesUnder c s) : configOk s.cfg = true := h.cfg ▸ hc

theorem receive (h : RangesUnder c s) (hr : rxStep s.sd.valid s.sd.tone s = .next t) : RangesUnder c t := by
  have hled := rxStep_ledgerStep hr
  have hfresh := hled.fresh h.ledger
  have htimes := hled.times_lt h.times
  rw [rxStep_changes hr]
  exact { h with times := ⟨h.times.1, htimes⟩, ledger := hfresh }

theorem enqueue (d : DataWord) (prio : BitVec 2) (hc : configOk c = true) (h : RangesUnder c s) :
    RangesUnder c (enqueue d prio s) := by
  obtain ⟨hcs, -⟩ := scheduler_bounds (h.configOk_cfg hc)
  obtain heq | ⟨sch, heq, hsch⟩ := enqueue_cases d prio s <;> rw [heq]
  · exact h
  · obtain ⟨rfl, -⟩ | ⟨-, rfl⟩ := hsch
    · exact { h with }
    · exact { h with schCnt := ⟨fun _ => rfl, fun _ => by simpa using hcs⟩ }

theorem schStep (rs : BitVec 16) (hc : configOk c = true) (h : RangesUnder c s) : RangesUnder c (schStep rs s) := by
  obtain heq | ⟨-, heq⟩ | ⟨-, sch, events, heq, hturn, hcnt⟩ := schStep_cases rs (h.configOk_cfg hc) <;> rw [heq]
  · exact h
  · exact { h with
      schCnt := by simp [schCntBounded, schHandoff]
      frame := by simp [sentFrameEncoded, schHandoff, encodeData_data] }
  · have hne : ¬ (sch.state = .none ∨ sch.state = .tx) := by
      obtain hw | hw | hw := hturn <;> simp [hw]
    exact { h with schCnt := ⟨fun hn => absurd hn hne, hcnt⟩ }

theorem txStep (hc : configOk c = true) (h : RangesUnder c s) : RangesUnder c (txStep s) := by
  obtain ⟨hcs, -⟩ := scheduler_bounds (h.configOk_cfg hc)
  obtain ⟨-, heq⟩ | ⟨-, -, heq⟩ | ⟨-, heq⟩ := txStep_cases s <;> rw [heq]
  · exact { h with }
  · exact { h with }
  · rw [txDone_eq]
    exact { h with
      schCnt := ⟨fun _ => rfl, fun _ => by simpa using hcs⟩
      frame := by simp [sentFrameEncoded] }

theorem resetMachine (hc : configOk c = true) (h : s.cfg = c) : RangesUnder c (resetMachine s) := by
  obtain ⟨-, -, -, -, -, -, -, -, hinit⟩ := threshold_bounds (h ▸ hc : configOk s.cfg = true)
  have hpow : 0 < 2 ^ s.cfg.wNow := Nat.two_pow_pos _
  exact {
    cfg := h
    analyzer := fun x =>
      ⟨forall_get_of_each (signedFits_zero _) (signedFits_zero _) (signedFits_zero _) (signedFits_zero _) x,
        forall_get_of_each (signedFits_zero _) (signedFits_zero _) (signedFits_zero _) (signedFits_zero _) x,
        forall_get_of_each (p := (· < 2 ^ s.cfg.wE)) (Nat.two_pow_pos _) (Nat.two_pow_pos _) (Nat.two_pow_pos _)
          (Nat.two_pow_pos _) x⟩
    times := ⟨hpow, hpow, hpow⟩
    noiseFloor := by
      simp only [noiseFloorFits, resetMachine_nfAcc, resetMachine_cfg, resetState, BitVec.toNat_ofNat]
      exact (Nat.mod_le _ _).trans (Nat.mul_le_mul_right _ (Nat.le_sub_one_of_lt hinit))
    schCnt := by simp [schCntBounded, resetState]
    frame := by simp [sentFrameEncoded, resetState]
    held := by simp [portHoldsPrefix, resetState]
    ledger := by simp [ledgerFresh, resetState] }

theorem kept (hc : configOk c = true) : KeptByOperations (RangesUnder c) where
  ports _ _ _ _ _ _ _ _ h := { h with }
  held _ _ h hp := { h with held := hp }
  clock _ h hfit := { h with times := ⟨hfit, h.times.2⟩ }
  analyze s h := { h with analyzer := analyze_fits s }
  decision _ _ _ h _ := { h with }
  monitor s h := by
    rw [monitor_changes]
    exact { h with }
  receive _ _ h hr := h.receive hr
  noiseFloor s h := by
    have hfits := nfUpdate_fits h.noiseFloor
    rw [nfUpdate_changes]
    exact { h with noiseFloor := hfits }
  enqueue _ d prio h := h.enqueue d prio hc
  transmit _ rs h := (h.schStep rs hc).txStep hc

end RangesUnder

/-- Each tick ends with TXSTEP, which brings the tone port back in line with the transmitter. -/
theorem portFollowsTx_kept : KeptByOperations (fun s => portFollowsTx s) where
  ports _ _ _ _ _ _ _ _ h := h
  held _ _ h _ := h
  clock _ h _ := h
  analyze _ h := h
  decision _ _ _ h _ := h
  monitor s h := by rw [monitor_changes]; exact h
  receive _ _ h hr := by rw [rxStep_changes hr]; exact h
  noiseFloor s h := by rw [nfUpdate_changes]; exact h
  enqueue s d prio h := by rw [enqueue_changes]; exact h
  transmit s rs _ := txStep_portFollowsTx _

/-- Settles O54: every operation keeps the ranges, a reset gives them; the tone port follows the transmitter after each
tick. -/
theorem stepKeepsRegisterRanges : Obligations.StepKeepsRegisterRanges := by
  unfold Obligations.StepKeepsRegisterRanges
  intro s t _ han htimes hnf hsch hframe hheld hled hport h
  have hc := configOk_of_step h
  have ht : RangesUnder s.cfg t :=
    (RangesUnder.kept hc).step (fun _ _ _ _ u hu _ => RangesUnder.resetMachine hc hu)
      ⟨rfl, han, htimes, hnf, hsch, hframe, hheld, hled⟩ h
  have hport' : portFollowsTx t :=
    portFollowsTx_kept.step (fun _ _ _ _ u _ _ => ⟨rfl, fun _ => rfl⟩) hport h
  exact ⟨ht.analyzer, ht.times, ht.noiseFloor, ht.schCnt, ht.frame, ht.held, ht.ledger, hport'⟩

/-! ### The deadline of the ledger -/

/-- The deadline of the ledger is at or past `b`. -/
def deadlineFrom (b : Nat) (s : State) : Prop := b ≤ s.led.inhibitUntil

theorem deadlineFrom_kept (b : Nat) : KeptByOperations (deadlineFrom b) where
  ports _ _ _ _ _ _ _ _ h := h
  held _ _ h _ := h
  clock _ h _ := h
  analyze _ h := h
  decision _ _ _ h _ := h
  monitor s h := by rw [monitor_changes]; exact h
  receive _ _ h hr := h.trans (rxStep_ledgerStep hr).inhibitUntil_le
  noiseFloor s h := by rw [nfUpdate_changes]; exact h
  enqueue s d prio h := by rw [enqueue_changes]; exact h
  transmit s rs h := by rw [txStep_changes, schStep_changes]; exact h

/-- Settles O58: LEDGER merges its deadline with `max`, and nothing else but a reset writes it. -/
theorem inhibitUntilNeverDecreases : Obligations.InhibitUntilNeverDecreases := by
  unfold Obligations.InhibitUntilNeverDecreases
  intro s t h hrst hsreset
  refine (deadlineFrom_kept s.led.inhibitUntil).step (fun e es hi hr => ?_) (le_refl _) h
  obtain rfl | ⟨p, hp⟩ := hr
  · exact absurd hi (hrst es)
  · exact absurd hp (hsreset e es p hi)

end Sys2Proof.Machine
end

section
/-! PROOFS. The register map of RDREG and the level outputs (10_state.md R41, R51, R52). -/

namespace Sys2Proof.Machine

variable {s : State}

/-! ### What RDREG answers -/

theorem execRdreg_of_some {a : BitVec 8} {v : Word} (h : regValue s a = some v) :
    exec (.rdreg a) s = .next { s with resp := s.resp ++ [v] } := by
  simp only [exec, execRdreg, h]
  rfl

theorem statusReg_isSome (s : State) {n : Nat} (h : n ≤ 0x17) : (statusReg s n).isSome = true := by
  interval_cases n <;> rfl

theorem statusReg_eq_none (s : State) {n : Nat} (h : 0x17 < n) : statusReg s n = none := by
  unfold statusReg
  split
  any_goals omega
  rfl

theorem configReg_isSome (c : Params) {n : Nat} (hlo : 0x40 ≤ n) (hhi : n ≤ 0x5F) : (configReg c n).isSome = true := by
  interval_cases n <;> rfl

/-- RDREG answers a status register below 0x18. -/
theorem rdreg_status (s : State) (a : BitVec 8) (h : a.toNat ≤ 0x17) :
    exec (.rdreg a) s = .next { s with resp := s.resp ++ [(statusReg s a.toNat).getD 0] } := by
  obtain ⟨v, hv⟩ := Option.isSome_iff_exists.1 (statusReg_isSome s h)
  rw [execRdreg_of_some (v := v) (by simp [regValue, hv]), hv]
  rfl

/-- RDREG answers a configuration register from 0x40 to 0x5F. -/
theorem rdreg_config (s : State) (a : BitVec 8) (hlo : 0x40 ≤ a.toNat) (hhi : a.toNat ≤ 0x5F) :
    exec (.rdreg a) s = .next { s with resp := s.resp ++ [(configReg s.cfg a.toNat).getD 0] } := by
  obtain ⟨v, hv⟩ := Option.isSome_iff_exists.1 (configReg_isSome s.cfg hlo hhi)
  rw [execRdreg_of_some (v := v) (by simp [regValue, statusReg_eq_none s (show 0x17 < a.toNat by omega), hv]), hv]
  rfl

/-! ### Numbers over two registers, halves -/

theorem highWord_lowWord {v : Nat} (h : v < 2 ^ 64) : (highWord v).toNat * 2 ^ 32 + (lowWord v).toNat = v := by
  simp only [highWord, lowWord, BitVec.toNat_ofNat, Nat.shiftRight_eq_div_pow]
  omega

/-- An energy of at most 62 bits is held by bits 29:0 over bits 31:0 (R51). -/
theorem energyHigh_lowWord {v w : Nat} (hw : w ≤ 62) (h : v < 2 ^ w) :
    (energyHigh v).toNat * 2 ^ 32 + (lowWord v).toNat = v := by
  have hp : 2 ^ w ≤ 2 ^ 62 := Nat.pow_le_pow_right (by norm_num) hw
  simp only [energyHigh, lowWord, BitVec.toNat_ofNat, Nat.shiftRight_eq_div_pow]
  omega

theorem halves_toNat {hi lo : Nat} (hhi : hi ≤ 65535) (hlo : lo ≤ 65535) : (halves hi lo).toNat = hi * 2 ^ 16 + lo := by
  have hl : (BitVec.ofNat 16 lo).toNat = lo := Nat.mod_eq_of_lt (by omega)
  have hh : (BitVec.ofNat 16 hi).toNat = hi := Nat.mod_eq_of_lt (by omega)
  rw [halves, BitVec.toNat_append, hl, hh, Nat.shiftLeft_eq, Nat.mul_comm, Nat.two_pow_add_eq_or_of_lt (by omega)]

/-! ### The fields of the words put together from bit fields -/

/-- The flags of STATUS (R51). -/
theorem statusWord_flags (s : State) :
    (statusWord s).getLsbD 0 = s.cam.busy ∧ (statusWord s).getLsbD 1 = s.out.valid ∧
    (statusWord s).getLsbD 2 = s.st.overrun ∧ (statusWord s).getLsbD 3 = s.st.cmdErr ∧
    (statusWord s).getLsbD 4 = s.tx.active ∧ (statusWord s).getLsbD 5 = isInhibited s ∧
    (statusWord s).getLsbD 6 = s.act.active ∧ (statusWord s).getLsbD 7 = s.slot.valid ∧
    (statusWord s).getLsbD 13 = s.sd.valid ∧ (statusWord s).getLsbD 16 = s.led.valid ∧
    (statusWord s).getLsbD 17 = s.tx.en := by
  simp only [statusWord, bit, BitVec.getLsbD_append]
  simp

/-- The wider fields of STATUS, and its bits 31 to 20 (R51). -/
theorem statusWord_fields (s : State) :
    (statusWord s).extractLsb' 8 2 = rxCode s.rx.state ∧ (statusWord s).extractLsb' 10 3 = schCode s.sch.state ∧
    (statusWord s).extractLsb' 14 2 = s.sd.tone ∧ (statusWord s).extractLsb' 18 2 = s.tx.tone ∧
    (statusWord s).extractLsb' 20 12 = 0 := by
  simp (disch := omega) only [statusWord, BitVec.extractLsb'_append_eq_of_le, BitVec.extractLsb'_append_eq_of_add_le]
  exact ⟨BitVec.extractLsb'_eq_self, BitVec.extractLsb'_eq_self, BitVec.extractLsb'_eq_self, BitVec.extractLsb'_eq_self,
    BitVec.extractLsb'_eq_self⟩

theorem rxStat_fields (s : State) :
    (rxStat s).extractLsb' 0 2 = rxCode s.rx.state ∧ (rxStat s).extractLsb' 8 6 = s.rx.cnt ∧
    (rxStat s).extractLsb' 16 5 = s.rx.score := by
  simp (disch := omega) only [rxStat, BitVec.extractLsb'_append_eq_of_le, BitVec.extractLsb'_append_eq_of_add_le]
  exact ⟨BitVec.extractLsb'_eq_self, BitVec.extractLsb'_eq_self, BitVec.extractLsb'_eq_self⟩

/-- The mask of the unlisted bits, cut as the register is, meets a 0 in every part. -/
theorem rxStat_unlisted (s : State) : rxStat s &&& 0xFFE0C0FC#32 = 0 := by
  have hcut : rxStat s &&& 0xFFE0C0FC#32 = (0#11 ++ s.rx.score ++ 0#2 ++ s.rx.cnt ++ 0#6 ++ rxCode s.rx.state) &&&
    (0x7FF#11 ++ 0#5 ++ 3#2 ++ 0#6 ++ 0x3F#6 ++ 0#2) := rfl
  rw [hcut]
  simp only [BitVec.and_append, BitVec.zero_and, BitVec.and_zero]
  rfl

theorem schStat_fields (s : State) :
    (schStat s).extractLsb' 0 3 = schCode s.sch.state ∧ (schStat s).getLsbD 3 = s.slot.valid ∧
    (schStat s).extractLsb' 4 2 = s.slot.prio ∧ (schStat s).extractLsb' 8 16 = s.sch.cnt := by
  have hflag : (schStat s).getLsbD 3 = s.slot.valid := by
    simp only [schStat, bit, BitVec.getLsbD_append]
    simp
  simp (disch := omega) only [schStat, BitVec.extractLsb'_append_eq_of_le, BitVec.extractLsb'_append_eq_of_add_le]
  exact ⟨BitVec.extractLsb'_eq_self, hflag, BitVec.extractLsb'_eq_self, BitVec.extractLsb'_eq_self⟩

theorem schStat_unlisted (s : State) : schStat s &&& 0xFF0000C0#32 = 0 := by
  have hcut : schStat s &&& 0xFF0000C0#32 =
    (0#8 ++ s.sch.cnt ++ 0#2 ++ s.slot.prio ++ bit s.slot.valid ++ schCode s.sch.state) &&&
    (0xFF#8 ++ 0#16 ++ 3#2 ++ 0#2 ++ 0#1 ++ 0#3) := rfl
  rw [hcut]
  simp only [BitVec.and_append, BitVec.zero_and, BitVec.and_zero]
  rfl

theorem actStat_fields (s : State) :
    (actStat s).getLsbD 0 = s.act.active ∧ (actStat s).extractLsb' 1 2 = s.act.prio ∧
    (actStat s).extractLsb' 3 2 = s.act.gen ∧ (actStat s).extractLsb' 16 16 = s.act.timer := by
  have hflag : (actStat s).getLsbD 0 = s.act.active := by
    simp only [actStat, bit, BitVec.getLsbD_append]
    simp
  simp (disch := omega) only [actStat, BitVec.extractLsb'_append_eq_of_le, BitVec.extractLsb'_append_eq_of_add_le]
  exact ⟨hflag, BitVec.extractLsb'_eq_self, BitVec.extractLsb'_eq_self, BitVec.extractLsb'_eq_self⟩

theorem actStat_unlisted (s : State) : actStat s &&& 0x0000FFE0#32 = 0 := by
  have hcut : actStat s &&& 0x0000FFE0#32 = (s.act.timer ++ 0#11 ++ s.act.gen ++ s.act.prio ++ bit s.act.active) &&&
    (0#16 ++ 0x7FF#11 ++ 0#2 ++ 0#2 ++ 0#1) := rfl
  rw [hcut]
  simp only [BitVec.and_append, BitVec.zero_and, BitVec.and_zero]
  rfl

theorem lastIdWord_fields (s : State) :
    (lastIdWord s).getLsbD 31 = s.led.valid ∧ (lastIdWord s).extractLsb' 0 24 = s.led.lastInhibitor := by
  have hflag : (lastIdWord s).getLsbD 31 = s.led.valid := by
    simp only [lastIdWord, bit, BitVec.getLsbD_append]
    simp
  exact ⟨hflag, BitVec.extractLsb'_append_eq_right⟩

theorem lastIdWord_unlisted (s : State) : lastIdWord s &&& 0x7F000000#32 = 0 := by
  have hcut : lastIdWord s &&& 0x7F000000#32 = (bit s.led.valid ++ 0#7 ++ s.led.lastInhibitor) &&&
    (0#1 ++ 0x7F#7 ++ 0#24) := rfl
  rw [hcut]
  simp only [BitVec.and_append, BitVec.zero_and, BitVec.and_zero]
  rfl

theorem camStat_fields (s : State) :
    (camStat s).getLsbD 0 = s.cam.busy ∧ (camStat s).extractLsb' 8 8 = s.cam.cnt := by
  have hflag : (camStat s).getLsbD 0 = s.cam.busy := by
    simp only [camStat, bit, BitVec.getLsbD_append]
    simp
  simp (disch := omega) only [camStat, BitVec.extractLsb'_append_eq_of_le, BitVec.extractLsb'_append_eq_of_add_le]
  exact ⟨hflag, BitVec.extractLsb'_eq_self⟩

theorem camStat_unlisted (s : State) : camStat s &&& 0xFFFF00FE#32 = 0 := by
  have hcut : camStat s &&& 0xFFFF00FE#32 = (0#16 ++ s.cam.cnt ++ 0#7 ++ bit s.cam.busy) &&&
    (0xFFFF#16 ++ 0#8 ++ 0x7F#7 ++ 0#1) := rfl
  rw [hcut]
  simp only [BitVec.and_append, BitVec.zero_and, BitVec.and_zero]
  rfl

/-! ### The maps -/

/-- Settles O11: RDREG answers `statusReg`, whose words are read field by field. -/
theorem statusRegisterMap : Obligations.StatusRegisterMap := by
  unfold Obligations.StatusRegisterMap
  intro s hnow hwe ⟨hn, hu, hl⟩ han hnf
  have hp : 2 ^ s.cfg.wNow ≤ 2 ^ 32 := Nat.pow_le_pow_right (by norm_num) hnow
  have henergy (t : Tone) : s.an.energy.get t < 2 ^ s.cfg.wE := (han t).2.2
  obtain ⟨b0, b1, b2, b3, b4, b5, b6, b7, b13, b16, b17⟩ := statusWord_flags s
  obtain ⟨f8, f10, f14, f18, f20⟩ := statusWord_fields s
  obtain ⟨rxState, rxCnt, rxScore⟩ := rxStat_fields s
  obtain ⟨schState, slotValid, slotPrio, schCnt⟩ := schStat_fields s
  obtain ⟨actActive, actPrio, actGen, actTimer⟩ := actStat_fields s
  obtain ⟨ledValid, ledId⟩ := lastIdWord_fields s
  obtain ⟨camBusy, camCnt⟩ := camStat_fields s
  refine ⟨fun a => (statusReg s a.toNat).getD 0, rxCode s.rx.state, schCode s.sch.state, ?_, ?_, rdreg_status s, rfl,
    ⟨b0, b1, b2, b3, b4, b5, b6, b7, f8, f10, b13, f14, b16, b17, f18, f20⟩, registerWord_toNat (hn.trans_le hp),
    highWord_lowWord hnf, energyHigh_lowWord hwe (henergy 0), energyHigh_lowWord hwe (henergy 1),
    energyHigh_lowWord hwe (henergy 2), energyHigh_lowWord hwe (henergy 3), highWord_lowWord s.an.total.isLt,
    ⟨rxState, rxCnt, rxScore, rxStat_unlisted s⟩,
    ⟨schState, slotValid, slotPrio, schCnt, schStat_unlisted s⟩,
    BitVec.toNat_setWidth_of_le (by norm_num),
    ⟨actActive, actPrio, actGen, actTimer, actStat_unlisted s⟩, registerWord_toNat (hu.trans_le hp),
    ⟨ledValid, ledId, lastIdWord_unlisted s⟩, BitVec.toNat_setWidth_of_le (by norm_num),
    registerWord_toNat (hl.trans_le hp),
    ⟨camBusy, camCnt, camStat_unlisted s⟩⟩
  · cases s.rx.state <;> rfl
  · cases s.sch.state <;> rfl

/-- Settles O12: RDREG answers `configReg`, and R11 bounds each constant below its width. -/
theorem configurationRegisterMap : Obligations.ConfigurationRegisterMap := by
  unfold Obligations.ConfigurationRegisterMap
  intro s hc hlen hoff
  obtain ⟨ht0, ht1, ht2, ht3⟩ := toneBin_bounds hc
  obtain ⟨hlock1, hlock, hk1, hk, hcool⟩ := receiver_bounds hc
  obtain ⟨hcs1, hcs, hb0, hb1, hb2, hb3, hrmin, hrmax, hrefresh, hjitter, hoff0, hoff1⟩ := scheduler_bounds hc
  obtain ⟨hgn, hgd, hfn, hfd, hcn, hcd, heps, hshift, hinit⟩ := threshold_bounds hc
  have htick : 1000 / s.cfg.tSymMs ≤ 1000 := Nat.div_le_self _ _
  exact ⟨fun a => (configReg s.cfg a.toNat).getD 0, rdreg_config s, registerWord_toNat hlen,
    registerWord_toNat (by omega), registerWord_toNat (by omega), registerWord_toNat (by omega),
    registerWord_toNat (by omega),
    BitVec.toInt_signExtend_of_le (by norm_num), BitVec.toInt_signExtend_of_le (by norm_num),
    BitVec.toInt_signExtend_of_le (by norm_num), BitVec.toInt_signExtend_of_le (by norm_num),
    BitVec.toNat_setWidth_of_le (by norm_num), registerWord_toNat (by omega), registerWord_toNat (by omega),
    halves_toNat hgn hgd, halves_toNat hfn hfd, registerWord_toNat heps, registerWord_toNat (by omega),
    highWord_lowWord hinit, halves_toNat hcn hcd, registerWord_toNat (by omega), registerWord_toNat (by omega),
    registerWord_toNat (by omega), registerWord_toNat (by omega), registerWord_toNat (by omega),
    registerWord_toNat (by omega), halves_toNat hrmin hrmax, registerWord_toNat (by omega),
    registerWord_toNat (by omega), registerWord_toNat (by omega), registerWord_toNat (by omega),
    registerWord_toNat hoff, registerWord_toNat (show ticksPerSec s.cfg < 2 ^ 32 by unfold ticksPerSec; omega)⟩

/-- Settles O60: each level output is defined as that field or test. -/
theorem levelOutputsFollowState : Obligations.LevelOutputsFollowState := fun _ => ⟨rfl, rfl, rfl, rfl, rfl⟩

end Sys2Proof.Machine
end

section
/-! PROOFS. The shared scalars and their writers (20_memory.md R80). -/

namespace Sys2Proof.Machine

variable {s t u : State}

/-! ### The shared scalars, and what stays outside a set of them -/

/-- The scalars that several parts of TED read and one writes (R80). -/
inductive SharedScalar where
  | noiseFloor
  | activity
  | ledger
  | slot

/-- From `s` to `t` the configuration record stayed, and so did every shared scalar that is not in `ws`. -/
structure KeptBut (ws : Set SharedScalar) (s t : State) : Prop where
  cfg : t.cfg = s.cfg
  nfAcc : .noiseFloor ∉ ws → t.nfAcc = s.nfAcc
  cam : .activity ∉ ws → t.cam = s.cam
  led : .ledger ∉ ws → t.led = s.led
  slot : .slot ∉ ws → t.slot = s.slot

namespace KeptBut

variable {ws ws' : Set SharedScalar}

theorem trans (h : KeptBut ws s t) (h' : KeptBut ws t u) : KeptBut ws s u where
  cfg := h'.cfg.trans h.cfg
  nfAcc hn := (h'.nfAcc hn).trans (h.nfAcc hn)
  cam hn := (h'.cam hn).trans (h.cam hn)
  led hn := (h'.led hn).trans (h.led hn)
  slot hn := (h'.slot hn).trans (h.slot hn)

theorem mono (hsub : ws ⊆ ws') (h : KeptBut ws s t) : KeptBut ws' s t where
  cfg := h.cfg
  nfAcc hn := h.nfAcc fun hm => hn (hsub hm)
  cam hn := h.cam fun hm => hn (hsub hm)
  led hn := h.led fun hm => hn (hsub hm)
  slot hn := h.slot fun hm => hn (hsub hm)

/-- Where every shared scalar may be written, the configuration record alone is left to keep. -/
theorem of_cfg (h : t.cfg = s.cfg) : KeptBut Set.univ s t where
  cfg := h
  nfAcc hn := absurd trivial hn
  cam hn := absurd trivial hn
  led hn := absurd trivial hn
  slot hn := absurd trivial hn

/-- Any write to the registers that are not shared. -/
theorem of_unshared {now an sd rx out sch act tx st win pend input resp events ret}
    (h : t = { s with now := now, an := an, sd := sd, rx := rx, out := out, sch := sch, act := act, tx := tx, st := st,
                      win := win, pend := pend, input := input, resp := resp, events := events, ret := ret }) :
    KeptBut ws s t := by
  subst h
  exact ⟨rfl, fun _ => rfl, fun _ => rfl, fun _ => rfl, fun _ => rfl⟩

/-- A write of the ledger, and of what the receiver writes around it. -/
theorem of_ledger {rx out led st events}
    (h : t = { s with rx := rx, out := out, led := led, st := st, events := events }) : KeptBut {.ledger} s t := by
  subst h
  exact ⟨rfl, fun _ => rfl, fun _ => rfl, fun hn => absurd rfl hn, fun _ => rfl⟩

/-- A write of the slot, and of what the scheduler writes around it. -/
theorem of_slot {slot sch act tx events}
    (h : t = { s with slot := slot, sch := sch, act := act, tx := tx, events := events }) : KeptBut {.slot} s t := by
  subst h
  exact ⟨rfl, fun _ => rfl, fun _ => rfl, fun _ => rfl, fun hn => absurd rfl hn⟩

end KeptBut

/-! ### Operation by operation -/

theorem monitor_keptBut (s : State) : KeptBut {.activity} s (monitor s) := by
  rw [monitor_changes]
  exact ⟨rfl, fun _ => rfl, fun hn => absurd rfl hn, fun _ => rfl, fun _ => rfl⟩

theorem nfUpdate_keptBut (s : State) : KeptBut {.noiseFloor} s (nfUpdate s) := by
  rw [nfUpdate_changes]
  exact ⟨rfl, fun hn => absurd rfl hn, fun _ => rfl, fun _ => rfl, fun _ => rfl⟩

theorem rxStep_keptBut {v : Bool} {c : Tone} (h : rxStep v c s = .next t) : KeptBut {.ledger} s t :=
  .of_ledger (rxStep_changes h)

theorem enqueue_keptBut (d : DataWord) (prio : BitVec 2) (s : State) : KeptBut {.slot} s (enqueue d prio s) :=
  .of_slot (enqueue_changes d prio s)

theorem actStep_keptBut (rj : BitVec 16) (s : State) : KeptBut {.slot} s (actStep rj s) :=
  .of_slot (actStep_changes rj s)

theorem schStep_keptBut (rs : BitVec 16) (s : State) : KeptBut {.slot} s (schStep rs s) :=
  .of_slot (schStep_changes rs s)

theorem txStep_keptBut (s : State) : KeptBut ∅ s (txStep s) :=
  .of_unshared (txStep_changes s)

/-! ### Ticks without an observed window -/

/-- What a tick can write when no window is observed: the receiver runs, the scheduler runs, the monitor and the noise
floor hold (40_tick.md R140, R141). -/
abbrev unobservedWrites : Set SharedScalar := {.ledger, .slot}

theorem tickTail_unobserved_keptBut {rnd : Word} (h : tickTail false rnd s = .next t) : KeptBut unobservedWrites s t := by
  obtain ⟨u, hu, ht⟩ := andThen_eq_next.1 h
  injection ht with ht
  have hrx : KeptBut unobservedWrites s u := (rxStep_keptBut hu).mono (by simp)
  have hact : KeptBut unobservedWrites u (actStep (entropyJ rnd) u) := (actStep_keptBut _ u).mono (by simp)
  have hsch := (schStep_keptBut (entropyS rnd) (actStep (entropyJ rnd) u)).mono (ws' := unobservedWrites) (by simp)
  have htx := (txStep_keptBut (schStep (entropyS rnd) (actStep (entropyJ rnd) u))).mono (ws' := unobservedWrites) (by simp)
  exact ht ▸ ((hrx.trans hact).trans hsch).trans htx

theorem symbolTick_keptBut {c : Tone} {rnd : Word} (h : symbolTick c rnd s = .next t) : KeptBut unobservedWrites s t := by
  obtain ⟨u, hu, ht⟩ := andThen_eq_next.1 h
  obtain ⟨-, rfl⟩ := advanceClock_eq_next.1 hu
  exact .trans (.of_unshared rfl) (tickTail_unobserved_keptBut ht)

theorem symbolTicks_keptBut {tones : List Tone} {rnds : List Word} (h : symbolTicks tones rnds s = .next t) :
    KeptBut unobservedWrites s t := by
  induction tones generalizing rnds s with
  | nil => cases h; exact .of_unshared rfl
  | cons c tones ih =>
    obtain ⟨u, hu, ht⟩ := andThen_eq_next.1 h
    exact (symbolTick_keptBut hu).trans (ih ht)

theorem tick_missed_keptBut {rnd : Word} (h : tick false rnd s = .next t) : KeptBut unobservedWrites s t := by
  obtain ⟨u, hu, ht⟩ := andThen_eq_next.1 h
  obtain ⟨-, rfl⟩ := advanceClock_eq_next.1 hu
  exact .trans (.of_unshared rfl) (tickTail_unobserved_keptBut ht)

/-! ### The configuration record -/

theorem cfg_kept (c : Params) : KeptByOperations (fun s => s.cfg = c) where
  ports _ _ _ _ _ _ _ _ h := h
  held _ _ h _ := h
  clock _ h _ := h
  analyze _ h := h
  decision _ _ _ h _ := h
  monitor s h := (monitor_keptBut s).cfg.trans h
  receive _ _ h hr := (rxStep_keptBut hr).cfg.trans h
  noiseFloor s h := (nfUpdate_keptBut s).cfg.trans h
  enqueue s d prio h := (enqueue_keptBut d prio s).cfg.trans h
  transmit s rs h := ((txStep_keptBut _).cfg.trans (schStep_keptBut rs s).cfg).trans h

/-! ### Instruction by instruction -/

/-- The shared scalars an instruction may write. -/
def sharedWrites : Instr → Set SharedScalar
  | .nfupdate => {.noiseFloor}
  | .monitor => {.activity}
  | .ledger _ _ _ | .emit _ | .rxCheck _ | .rxPayload _ _ | .rxstep _ _ => {.ledger}
  | .submit _ _ | .enqueue _ _ | .actstep _ | .schstep _ | .schHandoff => {.slot}
  | .tickMiss _ | .frame _ _ | .tone0 _ | .tone1 _ | .tone2 _ | .tone3 _ => unobservedWrites
  | .tickWin _ _ | .sreset => Set.univ
  | .nop | .rdreg _ | .activate _ _ | .deactivate | .popf | .qinh | .qlast | .clrf | .illegal _ => ∅
  | .analyze | .goertzel _ | .decideSym _ | .rxIdle | .rxSync _ _ | .rxCooldown | .crc16 _ => ∅
  | .schWait _ | .schBackoff | .schAbort _ | .schRetry | .encodeFrame _ | .txstep | .txdone => ∅

/-- A host command writes the slot in SUBMIT, everything in SRESET, and else nothing that is shared. -/
theorem command_keptBut {i : Instr} (hi : isCommand i = true) (h : exec i s = .next t) : KeptBut (sharedWrites i) s t := by
  cases i
  case submit prio d => cases h; exact enqueue_keptBut d prio s
  case sreset => cases h; exact .of_cfg rfl
  case rdreg addr =>
    simp only [exec, execRdreg] at h
    split at h <;> cases h <;> exact .of_unshared rfl
  case popf =>
    simp only [exec, execPopf] at h
    split at h <;> cases h <;> exact .of_unshared rfl
  case nop | activate | deactivate | qinh | qlast | clrf | illegal => cases h; exact .of_unshared rfl
  all_goals simp [isCommand] at hi

/-- No instruction writes a shared scalar outside `sharedWrites`. -/
theorem exec_keptBut {i : Instr} (h : exec i s = .next t) : KeptBut (sharedWrites i) s t := by
  cases i
  case nop | rdreg | submit | activate | deactivate | popf | qinh | qlast | clrf | sreset | illegal =>
    exact command_keptBut rfl h
  -- ticks
  case tickWin win rnd => exact .of_cfg ((cfg_kept s.cfg).tick (s := { s with win := win }) rfl h)
  case tickMiss rnd => exact .trans (.of_unshared rfl) (tick_missed_keptBut h)
  case frame f rnds => exact symbolTicks_keptBut h
  case tone0 | tone1 | tone2 | tone3 => exact symbolTick_keptBut h
  -- the analyzer, the decider, the monitor and the noise floor
  case analyze | goertzel => cases h; exact .of_unshared rfl
  case decideSym obs => cases h; exact .of_unshared (decideSymbol_changes obs s)
  case monitor => cases h; exact monitor_keptBut s
  case nfupdate => cases h; exact nfUpdate_keptBut s
  -- the receiver
  case rxIdle => cases h; exact .of_unshared (rxIdle_changes s)
  case rxSync v c => cases h; exact .of_unshared (rxSync_changes v c s)
  case rxCooldown => cases h; exact .of_unshared (rxCooldown_changes s)
  -- its path to the ledger
  case rxstep v c => exact rxStep_keptBut h
  case rxPayload v c => exact .of_ledger (rxPayload_changes h)
  case rxCheck b => exact .of_ledger (rxCheck_changes h)
  case emit d => exact .of_ledger (emit_changes h)
  case ledger deviceId reason ttl => exact .of_ledger (ledger_eq_next.1 h).2
  -- the scheduler
  case enqueue d prio => cases h; exact enqueue_keptBut d prio s
  case actstep rj => cases h; exact actStep_keptBut rj s
  case schstep rs => cases h; exact schStep_keptBut rs s
  case schHandoff => cases h; exact .of_slot rfl
  case schWait rs => cases h; exact .of_unshared (schWait_changes rs s)
  case schBackoff => cases h; exact .of_unshared (schBackoff_changes s)
  case schRetry => cases h; exact .of_unshared (schRetry_changes s)
  case schAbort rs => cases h; exact .of_unshared rfl
  -- the transmitter and the pure functions
  case txstep => cases h; exact txStep_keptBut s
  case txdone => cases h; exact .of_unshared (txDone_changes s)
  case crc16 | encodeFrame => cases h; exact .of_unshared rfl

/-! ### Who writes what -/

theorem noiseFloor_mem_sharedWrites {i : Instr} (h : .noiseFloor ∈ sharedWrites i) :
    i = .nfupdate ∨ i = .sreset ∨ ∃ w r, i = .tickWin w r := by
  cases i <;> simp [sharedWrites] at h ⊢

theorem activity_mem_sharedWrites {i : Instr} (h : .activity ∈ sharedWrites i) :
    i = .monitor ∨ i = .sreset ∨ ∃ w r, i = .tickWin w r := by
  cases i <;> simp [sharedWrites] at h ⊢

/-- Settles O59: an instruction keeps the scalars outside `sharedWrites`, where the ones a case speaks of are not. -/
theorem sharedScalarsHaveOneWriter : Obligations.SharedScalarsHaveOneWriter := by
  unfold Obligations.SharedScalarsHaveOneWriter
  intro i s t h
  have hk := exec_keptBut h
  refine ⟨hk.cfg, fun hwin hreset => ⟨fun hi => hk.nfAcc fun hm => ?noiseFloor, fun hi => hk.cam fun hm => ?activity⟩,
    fun hi => hk.led fun hm => ?ledger, fun hi => hk.slot fun hm => ?slot⟩
  case noiseFloor =>
    obtain rfl | rfl | ⟨w, r, rfl⟩ := noiseFloor_mem_sharedWrites hm
    · exact hi rfl
    · exact hreset rfl
    · exact hwin w r rfl
  case activity =>
    obtain rfl | rfl | ⟨w, r, rfl⟩ := activity_mem_sharedWrites hm
    · exact hi rfl
    · exact hreset rfl
    · exact hwin w r rfl
  case ledger => cases i <;> simp [sharedWrites] at hi hm
  case slot => cases i <;> simp [sharedWrites] at hi hm

end Sys2Proof.Machine
end

section
/-! PROOFS. The encodings: the Gray code, the frame layout, the command words (30_encoding.md). -/

namespace Sys2Proof

/-! ### Cutting a bit vector in two -/

/-- A vector is its upper part followed by its lower part. -/
theorem append_of_extract {a b : Nat} (x : BitVec (a + b)) : x.extractLsb' b a ++ x.extractLsb' 0 b = x :=
  BitVec.extractLsb'_append_extractLsb'

theorem eq_append_iff {a b : Nat} {x : BitVec (a + b)} {hi : BitVec a} {lo : BitVec b} :
    x = hi ++ lo ↔ x.extractLsb' b a = hi ∧ x.extractLsb' 0 b = lo := by
  constructor
  · rintro rfl
    exact ⟨BitVec.extractLsb'_append_eq_left, BitVec.extractLsb'_append_eq_right⟩
  · rintro ⟨rfl, rfl⟩
    exact (append_of_extract x).symm

theorem append_eq_append_iff {a b : Nat} {hi hi' : BitVec a} {lo lo' : BitVec b} :
    hi ++ lo = hi' ++ lo' ↔ hi = hi' ∧ lo = lo' := by
  rw [eq_append_iff, BitVec.extractLsb'_append_eq_left, BitVec.extractLsb'_append_eq_right]

/-- A mask of the upper bits compares the upper bits. -/
theorem and_mask_eq_iff {a b : Nat} {x : BitVec (a + b)} {hi : BitVec a} :
    x &&& (BitVec.allOnes a ++ 0#b) = hi ++ 0#b ↔ x.extractLsb' b a = hi := by
  conv_lhs =>
    rw [← append_of_extract x, BitVec.and_append, BitVec.and_allOnes, BitVec.and_zero, BitVec.append_left_inj]

/-! ### The Gray code -/

theorem dibitOf_toneOf (b : BitVec 2) : dibitOf (toneOf b) = b := by revert b; decide

/-- Settles O5: a finite table. -/
theorem grayCodeTable : Obligations.GrayCodeTable := by
  unfold Obligations.GrayCodeTable
  exact ⟨rfl, rfl, rfl, rfl, fun b => ⟨dibitOf_toneOf b, rfl⟩, by decide⟩

/-! ### The frame layout -/

theorem wireBits_sync (sync : BitVec 16) (f : WireFrame) : (wireBits sync f).extractLsb' 80 16 = sync := by
  simp (disch := omega) only [wireBits, BitVec.extractLsb'_append_eq_of_le]
  exact BitVec.extractLsb'_eq_self

theorem wireFields_wireBits (sync : BitVec 16) (f : WireFrame) : wireFields (wireBits sync f) = f := by
  obtain ⟨version, msgType, priority, flags, deviceId, reason, ttl, seq, crc16⟩ := f
  simp (disch := omega) only [wireFields, wireBits, BitVec.extractLsb'_append_eq_of_le,
    BitVec.extractLsb'_append_eq_of_add_le, WireFrame.mk.injEq]
  simp only [BitVec.extractLsb'_eq_self, and_self, Nat.sub_self]

/-- Neighbouring fields read from a frame are one wider field of it. -/
theorem wireBits_wireFields (bits : FrameBits) : wireBits (bits.extractLsb' 80 16) (wireFields bits) = bits := by
  simp only [wireBits, wireFields, BitVec.extractLsb'_append_extractLsb'_eq_extractLsb']
  exact BitVec.extractLsb'_eq_self

/-- Settles O4: each field is cut out of the frame where it was put in. -/
theorem frameLayoutRoundTrip : Obligations.FrameLayoutRoundTrip := by
  unfold Obligations.FrameLayoutRoundTrip
  exact ⟨fun sync f => ⟨wireFields_wireBits sync f, wireBits_sync sync f⟩, wireBits_wireFields⟩

/-! ### The legal first words (30_encoding.md R120 to R122) -/

/-- The commands that have no operand, each with its one word. -/
def bareCommands : List (Instr × Word) :=
  [(.nop, 0x00000000#32), (.deactivate, 0x22000000#32), (.popf, 0x30000000#32), (.qinh, 0x31000000#32),
   (.qlast, 0x32000000#32), (.clrf, 0x33000000#32), (.sreset, 0x3F000000#32)]

/-- Encoding a bare command gives its word, and decoding this word gives it back. -/
theorem bareCommands_agree : ∀ p ∈ bareCommands,
    encodeWords p.1 = some [p.2] ∧ decodeShort p.2 = p.1 ∧ WellFormed p.1 = true ∧ p.1 ≠ .illegal p.2 := by decide

/-- A field right below the opcode, read together with it. -/
theorem extract_opcode_eq_iff (w : Word) {k n : Nat} (hk : 24 = k + n) (op : BitVec 8) (lo : BitVec n) :
    w.extractLsb' k (8 + n) = op ++ lo ↔ opcodeOf w = op ∧ w.extractLsb' k n = lo := by
  rw [← BitVec.extractLsb'_append_extractLsb'_eq_extractLsb' hk, ← append_eq_append_iff]
  rfl

theorem takesPayload_iff (w : Word) :
    takesPayload w = true ↔ w.extractLsb' 2 30 = 0x08000000#30 ∨ w.extractLsb' 2 30 = 0x08400000#30 := by
  have hsubmit : w.extractLsb' 2 30 = 0x08000000#30 ↔ _ := extract_opcode_eq_iff w (n := 22) rfl 0x20#8 0#22
  have hactivate : w.extractLsb' 2 30 = 0x08400000#30 ↔ _ := extract_opcode_eq_iff w (n := 22) rfl 0x21#8 0#22
  simp only [takesPayload, Bool.and_eq_true, Bool.or_eq_true, beq_iff_eq, or_and_right, hsubmit, hactivate]

/-- A word is legal where it is a bare command, RDREG with some address, or the first word of a command with a
payload. -/
theorem reservedFirstWord_iff (w : Word) :
    reservedFirstWord w = true ↔
      (∀ p ∈ bareCommands, w ≠ p.2) ∧ w.extractLsb' 8 24 ≠ 0x100000#24 ∧ takesPayload w = false := by
  have hbare (v : Word) : w &&& 0xFFFFFFFF#32 = v ↔ w = v := by
    rw [show 0xFFFFFFFF#32 = BitVec.allOnes 32 from rfl, BitVec.and_allOnes]
  have hrdreg : w &&& 0xFFFFFF00#32 = 0x10000000#32 ↔ w.extractLsb' 8 24 = 0x100000#24 :=
    and_mask_eq_iff (a := 24) (b := 8) (x := w) (hi := 0x100000#24)
  have hlong (hi : BitVec 30) : w &&& 0xFFFFFFFC#32 = hi ++ 0#2 ↔ w.extractLsb' 2 30 = hi :=
    and_mask_eq_iff (a := 30) (b := 2) (x := w) (hi := hi)
  have hsubmit : w &&& 0xFFFFFFFC#32 = 0x20000000#32 ↔ w.extractLsb' 2 30 = 0x08000000#30 := hlong 0x08000000#30
  have hactivate : w &&& 0xFFFFFFFC#32 = 0x21000000#32 ↔ w.extractLsb' 2 30 = 0x08400000#30 := hlong 0x08400000#30
  rw [← Bool.not_eq_true (takesPayload w), takesPayload_iff]
  simp only [reservedFirstWord, legalFirstWords, bareCommands, List.all_cons, List.all_nil, List.forall_mem_cons,
    Bool.and_eq_true, bne_iff_ne, ne_eq, hbare, hrdreg, hsubmit, hactivate, not_or, List.not_mem_nil, false_implies,
    implies_true, and_true]
  tauto

/-! ### Short commands -/

/-- A command of format H0 is the one of its opcode where the bits 23:0 are 0. -/
theorem formatH0_of_opcode {w : Word} {op : BitVec 8} (i : Instr) (h : opcodeOf w = op) :
    (w = op ++ 0#24 ∧ formatH0 w i = i) ∨ formatH0 w i = .illegal w := by
  unfold formatH0
  split
  case isTrue hlow => exact .inl ⟨(eq_append_iff (a := 8)).2 ⟨h, hlow⟩, rfl⟩
  case isFalse => exact .inr rfl

/-- A first word that no payload follows is a bare command, RDREG, or illegal. -/
theorem decodeShort_cases (w : Word) :
    (decodeShort w, w) ∈ bareCommands ∨ (∃ addr, w = 0x100000#24 ++ addr ∧ decodeShort w = .rdreg addr) ∨
    decodeShort w = .illegal w := by
  have hbare {op : BitVec 8} {i : Instr} (hop : opcodeOf w = op) (hmem : (i, op ++ 0#24) ∈ bareCommands) :
      (formatH0 w i, w) ∈ bareCommands ∨ (∃ addr, w = 0x100000#24 ++ addr ∧ formatH0 w i = .rdreg addr) ∨
      formatH0 w i = .illegal w := by
    obtain ⟨hw, hi⟩ | hi := formatH0_of_opcode i hop
    · exact .inl (by rwa [hi, hw])
    · exact .inr (.inr hi)
  have hrdreg (hop : opcodeOf w = 0x10#8) (hzero : w.extractLsb' 8 16 = 0#16) :
      w = 0x100000#24 ++ w.extractLsb' 0 8 := by
    have hhigh : w.extractLsb' 8 24 = 0x10#8 ++ 0#16 := (extract_opcode_eq_iff w rfl _ _).2 ⟨hop, hzero⟩
    exact (eq_append_iff (a := 24)).2 ⟨hhigh, rfl⟩
  unfold decodeShort
  split_ifs with hnop hreg hzero hdeactivate hpopf hqinh hqlast hclrf hsreset
  · exact hbare hnop (by decide)
  · exact .inr (.inl ⟨_, hrdreg hreg hzero, rfl⟩)
  · exact .inr (.inr rfl)
  · exact hbare hdeactivate (by decide)
  · exact hbare hpopf (by decide)
  · exact hbare hqinh (by decide)
  · exact hbare hqlast (by decide)
  · exact hbare hclrf (by decide)
  · exact hbare hsreset (by decide)
  · exact .inr (.inr rfl)

theorem opcodeOf_rdreg (addr : BitVec 8) : opcodeOf (0x100000#24 ++ addr) = 0x10#8 :=
  BitVec.extractLsb'_append_eq_of_le (by omega)

theorem decodeShort_rdreg (addr : BitVec 8) : decodeShort (0x100000#24 ++ addr) = .rdreg addr := by
  have hzero : (0x100000#24 ++ addr).extractLsb' 8 16 = 0#16 := BitVec.extractLsb'_append_eq_of_le (by omega)
  have haddr : (0x100000#24 ++ addr).extractLsb' 0 8 = addr := BitVec.extractLsb'_append_eq_right
  simp [decodeShort, opcodeOf_rdreg, hzero, haddr]

theorem takesPayload_rdreg (addr : BitVec 8) : takesPayload (0x100000#24 ++ addr) = false := by
  simp [takesPayload, opcodeOf_rdreg]

/-- ILLEGAL is decoded from the reserved words and from no other (R124). -/
theorem decodeShort_eq_illegal_iff {w : Word} (h : takesPayload w = false) :
    decodeShort w = .illegal w ↔ reservedFirstWord w = true := by
  rw [reservedFirstWord_iff]
  constructor
  · intro hill
    refine ⟨?bare, ?rdreg, h⟩
    case bare =>
      rintro p hp rfl
      obtain ⟨-, hdec, -, hne⟩ := bareCommands_agree p hp
      exact hne (hdec.symm.trans hill)
    case rdreg =>
      intro hhigh
      have hw : w = 0x100000#24 ++ w.extractLsb' 0 8 := (eq_append_iff (a := 24)).2 ⟨hhigh, rfl⟩
      rw [hw, decodeShort_rdreg] at hill
      cases hill
  · rintro ⟨hbare, hrdreg, -⟩
    obtain hmem | ⟨addr, hw, -⟩ | hill := decodeShort_cases w
    · exact absurd rfl (hbare _ hmem)
    · exact absurd (hw ▸ BitVec.extractLsb'_append_eq_left) hrdreg
    · exact hill

theorem encodeWords_decodeShort (w : Word) : encodeWords (decodeShort w) = some [w] := by
  obtain hmem | ⟨addr, hw, hdec⟩ | hill := decodeShort_cases w
  · exact (bareCommands_agree _ hmem).1
  · rw [hdec, hw]
    rfl
  · rw [hill]
    rfl

theorem decodeShort_wellFormed {w : Word} (h : takesPayload w = false) : WellFormed (decodeShort w) = true := by
  obtain hmem | ⟨addr, -, hdec⟩ | hill := decodeShort_cases w
  · obtain ⟨-, -, hwf, -⟩ := bareCommands_agree _ hmem
    exact hwf
  · rw [hdec]
    rfl
  · rw [hill]
    exact (decodeShort_eq_illegal_iff h).1 hill

/-! ### Commands with a payload -/

theorem takesPayload_submit (prio : BitVec 2) : takesPayload (0x08000000#30 ++ prio) = true :=
  (takesPayload_iff _).2 (.inl BitVec.extractLsb'_append_eq_left)

theorem takesPayload_activate (prio : BitVec 2) : takesPayload (0x08400000#30 ++ prio) = true :=
  (takesPayload_iff _).2 (.inr BitVec.extractLsb'_append_eq_left)

theorem decodeLong_submit (prio : BitVec 2) (w1 w2 : Word) :
    decodeLong (0x08000000#30 ++ prio) w1 w2 = .submit prio (w1 ++ w2) := by
  have hop : opcodeOf (0x08000000#30 ++ prio) = 0x20#8 := BitVec.extractLsb'_append_eq_of_le (by omega)
  have hprio : (0x08000000#30 ++ prio).extractLsb' 0 2 = prio := BitVec.extractLsb'_append_eq_right
  rw [decodeLong, if_pos hop, hprio]

theorem decodeLong_activate (prio : BitVec 2) (w1 w2 : Word) :
    decodeLong (0x08400000#30 ++ prio) w1 w2 = .activate prio (w1 ++ w2) := by
  have hop : opcodeOf (0x08400000#30 ++ prio) = 0x21#8 := BitVec.extractLsb'_append_eq_of_le (by omega)
  have hprio : (0x08400000#30 ++ prio).extractLsb' 0 2 = prio := BitVec.extractLsb'_append_eq_right
  rw [decodeLong, if_neg (by rw [hop]; decide), hprio]

/-- Three words that begin with SUBMIT or ACTIVATE are its encoding. -/
theorem decodeLong_agrees {w0 : Word} (w1 w2 : Word) (h : takesPayload w0 = true) :
    WellFormed (decodeLong w0 w1 w2) = true ∧ encodeWords (decodeLong w0 w1 w2) = some [w0, w1, w2] := by
  have h1 : (w1 ++ w2).extractLsb' 32 32 = w1 := BitVec.extractLsb'_append_eq_left
  have h2 : (w1 ++ w2).extractLsb' 0 32 = w2 := BitVec.extractLsb'_append_eq_right
  obtain hhigh | hhigh := (takesPayload_iff w0).1 h
  · rw [(eq_append_iff (a := 30) (b := 2)).2 ⟨hhigh, rfl⟩, decodeLong_submit]
    exact ⟨rfl, by rw [encodeWords, h1, h2]⟩
  · rw [(eq_append_iff (a := 30) (b := 2)).2 ⟨hhigh, rfl⟩, decodeLong_activate]
    exact ⟨rfl, by rw [encodeWords, h1, h2]⟩

/-! ### Command words and events -/

theorem decodeWords_of_short {w : Word} (ws : List Word) (h : takesPayload w = false) :
    decodeWords (w :: ws) = .instr (decodeShort w) [] := by
  simp [decodeWords, h]

theorem decodeWords_of_long {w0 : Word} (w1 w2 : Word) (h : takesPayload w0 = true) :
    decodeWords [w0] = .more [w0] ∧ decodeWords [w0, w1] = .more [w0, w1] ∧
    decodeWords [w0, w1, w2] = .instr (decodeLong w0 w1 w2) [] := by
  simp [decodeWords, h]

/-- Settles O3: a first word has a payload or not, and each kind of command encodes back. -/
theorem commandWordsHaveOneMeaning : Obligations.CommandWordsHaveOneMeaning := by
  unfold Obligations.CommandWordsHaveOneMeaning
  constructor
  · intro w0 h
    exact ⟨decodeShort w0, decodeWords_of_short [] h, decodeShort_wellFormed h, encodeWords_decodeShort w0,
      decodeShort_eq_illegal_iff h⟩
  · intro w0 w1 w2 h
    obtain ⟨hone, htwo, hthree⟩ := decodeWords_of_long w1 w2 h
    have hlegal : reservedFirstWord w0 = false := by
      rw [← Bool.not_eq_true, reservedFirstWord_iff, h]
      simp
    exact ⟨hone, htwo, hlegal, _, hthree, decodeLong_agrees w1 w2 h⟩

/-- One word that no payload follows is one instruction. -/
theorem decodeStream_of_short {w : Word} (sync : BitVec 16) (rest : List PortEvent) (h : takesPayload w = false) :
    decodeStream sync [] (.word w :: rest) = some (decodeShort w, rest) := by
  simp [decodeStream, decodeEvent, decodeWords_of_short [] h]

/-- The three words of a command with a payload are held until the last has come (R290). -/
theorem decodeStream_of_long {w0 : Word} (sync : BitVec 16) (w1 w2 : Word) (rest : List PortEvent)
    (h : takesPayload w0 = true) :
    decodeStream sync [] (.word w0 :: .word w1 :: .word w2 :: rest) = some (decodeLong w0 w1 w2, rest) := by
  obtain ⟨hone, htwo, hthree⟩ := decodeWords_of_long w1 w2 h
  simp [decodeStream, decodeEvent, hone, htwo, hthree]

theorem decodeStream_frame (sync : BitVec 16) (f : WireFrame) (rnds : List Word) (rest : List PortEvent) :
    decodeStream sync [] (.frame (wireBits sync f) rnds :: rest) = some (.frame f rnds, rest) := by
  simp [decodeStream, decodeEvent, wireBits_sync, wireFields_wireBits]

/-- Settles O1: the sequences are closed, and decoding them is a computation. -/
theorem specWordsDecode : Obligations.SpecWordsDecode := by
  unfold Obligations.SpecWordsDecode
  decide

/-- A data word is its two payload words, the upper one first (R121). -/
theorem append_of_payload (d : DataWord) : d.extractLsb' 32 32 ++ d.extractLsb' 0 32 = d :=
  append_of_extract (a := 32) (b := 32) d

/-- Settles O2: an instruction is one event, one word that no payload follows, or a command with its payload; an internal
operation has no events. -/
theorem decodeEncodeAgree : Obligations.DecodeEncodeAgree := by
  unfold Obligations.DecodeEncodeAgree
  intro sync i evs rest hwf henc
  cases i
  case nop | deactivate | popf | qinh | qlast | clrf | sreset =>
    cases henc
    exact decodeStream_of_short sync rest rfl
  case rdreg addr =>
    cases henc
    exact (decodeStream_of_short sync rest (takesPayload_rdreg addr)).trans (by rw [decodeShort_rdreg])
  case submit prio d =>
    cases henc
    exact (decodeStream_of_long sync _ _ rest (takesPayload_submit prio)).trans (by
      rw [decodeLong_submit, append_of_payload])
  case activate prio d =>
    cases henc
    exact (decodeStream_of_long sync _ _ rest (takesPayload_activate prio)).trans (by
      rw [decodeLong_activate, append_of_payload])
  case illegal w =>
    cases henc
    obtain ⟨-, -, hshort⟩ := (reservedFirstWord_iff w).1 hwf
    exact (decodeStream_of_short sync rest hshort).trans (by rw [(decodeShort_eq_illegal_iff hshort).2 hwf])
  case tickWin | tickMiss | tone0 | tone1 | tone2 | tone3 => cases henc; rfl
  case frame f rnds =>
    cases henc
    exact decodeStream_frame sync f rnds rest
  all_goals cases henc

end Sys2Proof
end

section
/-! PROOFS. The symbol tick: when it completes, what it runs, what it leaves alone (40_tick.md R140, 30_encoding.md R100). -/

namespace Sys2Proof.Machine

variable {s t u : State}

/-! ### Completion under the premise of 93 U1 -/

theorem ledger_completes (deviceId : BitVec 24) (reason ttl : BitVec 8) (h : clockAhead 0 s) :
    ∃ t, ledger deviceId reason ttl s = .next t := by
  have hmul : ttl.toNat * ticksPerSec s.cfg ≤ 255 * ticksPerSec s.cfg := Nat.mul_le_mul_right _ (by omega)
  exact ⟨_, ledger_eq_next.2 ⟨by simp only [ledgerUntil]; omega, rfl⟩⟩

theorem emit_completes (d : DataWord) (h : clockAhead 0 s) : ∃ t, emit d s = .next t := by
  have hrec : clockAhead 0 (emitRecord d s) := by
    rw [emitRecord_changes]
    exact h
  obtain ⟨u, hu⟩ := ledger_completes (dataDeviceId d) (dataReason d) (dataTtl d) hrec
  exact ⟨_, emit_eq_next.2 ⟨u, hu, rfl⟩⟩

theorem rxCheck_completes (b : BitVec 80) (h : clockAhead 0 s) : ∃ t, rxCheck b s = .next t := by
  unfold rxCheck
  split
  · obtain ⟨u, hu⟩ := emit_completes (payloadData b) h
    exact ⟨_, andThen_eq_next.2 ⟨u, hu, rfl⟩⟩
  · exact ⟨_, rfl⟩

theorem rxPayload_completes (v : Bool) (c : Tone) (h : clockAhead 0 s) : ∃ t, rxPayload v c s = .next t := by
  unfold rxPayload
  split
  · exact ⟨_, rfl⟩
  · split
    · exact rxCheck_completes (s := setBits (pushDibit s.rx.bits c) s) _ h
    · exact ⟨_, rfl⟩

/-- RXSTEP can stop in LEDGER alone, and under the premise the deadline fits. -/
theorem rxStep_completes (v : Bool) (c : Tone) (h : clockAhead 0 s) : ∃ t, rxStep v c s = .next t := by
  unfold rxStep rxArm
  split
  · exact ⟨_, rfl⟩
  · exact ⟨_, rfl⟩
  · exact rxPayload_completes (s := shiftIn v c s) v c h
  · exact ⟨_, rfl⟩

/-! ### A symbol tick as the operations it runs -/

/-- Steps 5 to 9 of an unobserved tick: the receiver on the decision, then ACTSTEP, SCHSTEP and TXSTEP (R140). -/
theorem tickTail_unobserved_eq_runAll (rnd : Word) (s : State) :
    tickTail false rnd s =
      runAll [.rxstep s.sd.valid s.sd.tone, .actstep (rnd.extractLsb' 16 16), .schstep (rnd.extractLsb' 0 16),
        .txstep] s := rfl

theorem tickTail_unobserved_completes (rnd : Word) (h : clockAhead 0 s) : ∃ t, tickTail false rnd s = .next t := by
  obtain ⟨u, hu⟩ := rxStep_completes s.sd.valid s.sd.tone h
  exact ⟨_, andThen_eq_next.2 ⟨u, hu, rfl⟩⟩

theorem symbolTick_of_clock (c : Tone) (rnd : Word) (h : s.now + 1 < 2 ^ s.cfg.wNow) :
    symbolTick c rnd s =
      tickTail false rnd { s with now := s.now + 1, sd := if s.tx.active then ⟨false, 0⟩ else ⟨true, c⟩ } := by
  rw [symbolTick, advanceClock_eq_next.2 ⟨h, rfl⟩]
  rfl

theorem symbolTick_completes (c : Tone) (rnd : Word) (h : clockAhead 1 s) : ∃ t, symbolTick c rnd s = .next t := by
  rw [symbolTick_of_clock c rnd (by omega)]
  exact tickTail_unobserved_completes rnd h

/-- Settles O36: the row of a tone is the symbol tick, whose tail runs the four operations on the decision. -/
theorem toneIsOneSymbolTick : Obligations.ToneIsOneSymbolTick := by
  unfold Obligations.ToneIsOneSymbolTick
  intro k rnd s
  rw [exec_toneInstr]
  refine ⟨symbolTick_completes k rnd, ?_⟩
  rintro hclock x rfl
  rw [symbolTick_of_clock k rnd hclock, tickTail_unobserved_eq_runAll]

/-! ### What symbol ticks leave alone -/

/-- From `s` to `t`, `n` symbol periods passed, and what only an observed window or a reset writes stayed. -/
structure SymbolsPassed (n : Nat) (s t : State) : Prop where
  now : t.now = s.now + n
  an : t.an = s.an
  win : t.win = s.win
  kept : KeptBut unobservedWrites s t

theorem SymbolsPassed.trans {n m : Nat} (h : SymbolsPassed n s t) (h' : SymbolsPassed m t u) :
    SymbolsPassed (n + m) s u where
  now := by rw [h'.now, h.now, Nat.add_assoc]
  an := h'.an.trans h.an
  win := h'.win.trans h.win
  kept := h.kept.trans h'.kept

theorem SymbolsPassed.clockAhead {n m : Nat} (h : SymbolsPassed n s t) (hs : clockAhead (n + m) s) :
    clockAhead m t := by
  rw [Machine.clockAhead, h.now, h.kept.cfg]
  omega

theorem tickTail_unobserved_passed {rnd : Word} (h : tickTail false rnd s = .next t) : SymbolsPassed 0 s t := by
  have hkept := tickTail_unobserved_keptBut h
  obtain ⟨u, hu, ht⟩ := andThen_eq_next.1 h
  injection ht with ht
  have hall : t.now = s.now ∧ t.an = s.an ∧ t.win = s.win := by
    rw [← ht, txStep_changes, schStep_changes, actStep_changes, if_neg Bool.false_ne_true, rxStep_changes hu]
    exact ⟨rfl, rfl, rfl⟩
  obtain ⟨hnow, han, hwin⟩ := hall
  exact ⟨hnow, han, hwin, hkept⟩

theorem symbolTick_passed {c : Tone} {rnd : Word} (h : symbolTick c rnd s = .next t) : SymbolsPassed 1 s t := by
  obtain ⟨u, hu, ht⟩ := andThen_eq_next.1 h
  obtain ⟨-, rfl⟩ := advanceClock_eq_next.1 hu
  have htail := tickTail_unobserved_passed ht
  exact ⟨htail.now, htail.an, htail.win, .trans (.of_unshared rfl) htail.kept⟩

theorem symbolTicks_complete (tones : List Tone) (rnds : List Word) (h : clockAhead tones.length s) :
    ∃ t, symbolTicks tones rnds s = .next t ∧ SymbolsPassed tones.length s t := by
  induction tones generalizing rnds s with
  | nil => exact ⟨s, rfl, rfl, rfl, rfl, .of_unshared rfl⟩
  | cons c tones ih =>
    rw [List.length_cons, Nat.add_comm] at h ⊢
    obtain ⟨u, hu⟩ := symbolTick_completes c (rnds.headD 0) (s := s) (by omega)
    have hpass := symbolTick_passed hu
    obtain ⟨t, ht, hrest⟩ := ih rnds.tail (hpass.clockAhead h)
    exact ⟨t, andThen_eq_next.2 ⟨u, hu, ht⟩, hpass.trans hrest⟩

/-- What every symbol takes from one place to the next, all symbols take from the beginning to the end. -/
theorem symbolTicks_induct {P : Nat → State → Prop} {tones : List Tone} {rnds : List Word} (hs : P 0 s)
    (hstep : ∀ j (hj : j < tones.length) rnd u v, P j u → symbolTick tones[j] rnd u = .next v → P (j + 1) v)
    (h : symbolTicks tones rnds s = .next t) : P tones.length t := by
  induction tones generalizing P rnds s with
  | nil => cases h; exact hs
  | cons c tones ih =>
    obtain ⟨u, hu, ht⟩ := andThen_eq_next.1 h
    have hhead : P 1 u := hstep 0 (Nat.succ_pos _) _ s u hs hu
    exact ih (P := fun j => P (j + 1)) hhead (fun j hj => hstep (j + 1) (Nat.succ_lt_succ hj)) ht

end Sys2Proof.Machine
end

section
/-! PROOFS. The reception of a frame by a receiver just locked (43_frame_receiver.md R195 to R200, 30_encoding.md R108). -/

namespace Sys2Proof.Machine

variable {s t u v w : State} {c : Tone} {p : BitVec 80}

/-! ### The symbols of a frame -/

theorem frameSymbols_length (f : FrameBits) : (frameSymbols f).length = 48 := by simp [frameSymbols]

/-- The first eight symbols of a frame are those of SYNC_WORD (30_encoding.md R107). -/
theorem frameSymbol_sync (c : Params) (p : BitVec 80) {j : Nat} (hj : j ≤ 7) :
    frameSymbol (c.syncWord ++ p) j = syncTone c j := by
  rw [frameSymbol, syncTone, if_pos (by omega), BitVec.extractLsb'_append_eq_of_le (by omega),
    show 94 - 2 * j - 80 = 14 - 2 * j by omega]

/-- The other forty carry the bits after it. -/
theorem frameSymbol_payload (sync : BitVec 16) (p : BitVec 80) {k : Nat} (hk : k ≤ 39) :
    frameSymbol (sync ++ p) (8 + k) = toneOf (p.extractLsb' (78 - 2 * k) 2) := by
  rw [frameSymbol, BitVec.extractLsb'_append_eq_of_add_le (by omega), show 94 - 2 * (8 + k) = 78 - 2 * k by omega]

/-- A received dibit moves the bits on by two places (R197). -/
theorem pushDibit_toneOf (p : BitVec 80) (m : Nat) :
    pushDibit (p >>> (m + 2)) (toneOf (p.extractLsb' m 2)) = p >>> m := by
  rw [pushDibit, dibitOf_toneOf]
  apply BitVec.eq_of_getLsbD_eq
  intro i hi
  by_cases hlow : i < 2
  · simp [hi, hlow]
  · simp [hi, hlow, show m + 2 + (i - 2) = m + i by omega]

/-- After `k + 1` of the forty symbols the register holds the first `2 (k + 1)` bits. -/
theorem pushDibit_frameSymbol (sync : BitVec 16) (p : BitVec 80) {k : Nat} (hk : k ≤ 39) :
    pushDibit (p >>> (80 - 2 * k)) (frameSymbol (sync ++ p) (8 + k)) = p >>> (80 - 2 * (k + 1)) := by
  rw [frameSymbol_payload sync p hk, show 80 - 2 * k = 78 - 2 * k + 2 by omega, pushDibit_toneOf,
    show 80 - 2 * (k + 1) = 78 - 2 * k by omega]

/-! ### One symbol at a quiet transmitter -/

/-- The state in which the arm of the receiver runs on the symbol `c`: the clock advanced, the symbol decided and in the
history. -/
def hearing (c : Tone) (s : State) : State := shiftIn true c { s with now := s.now + 1, sd := ⟨true, c⟩ }

/-- What TXSTEP leaves of `s` when nothing is sent. -/
def silent (s : State) : State := { s with tx := { s.tx with en := false, tone := 0 } }

/-- With nothing to transmit, the receiver alone acts on a symbol. -/
theorem symbolTick_quiet {rnd : Word} (hq : transmitQuiet s) (h : symbolTick c rnd s = .next t) :
    ∃ w, rxArm true c (hearing c s) = .next w ∧ t = silent w := by
  obtain ⟨htx, hsch, hact⟩ := hq
  obtain ⟨u, hu, htail⟩ := andThen_eq_next.1 h
  obtain ⟨-, rfl⟩ := advanceClock_eq_next.1 hu
  simp only [htx, Bool.false_eq_true, if_false] at htail
  obtain ⟨w, hw, ht⟩ := andThen_eq_next.1 htail
  obtain ⟨hwtx, hwsch, hwact⟩ : transmitQuiet w := by
    rw [rxStep_changes hw]
    exact ⟨htx, hsch, hact⟩
  have hactStep (rj : BitVec 16) : actStep rj w = w := by rw [actStep, if_pos hwact]
  have hschStep (rs : BitVec 16) : schStep rs w = w := by rw [schStep, hwsch]
  refine ⟨w, hw, ?_⟩
  rw [← Host.Outcome.next.inj ht, if_neg Bool.false_ne_true, hactStep, hschStep, txStep, if_pos hwtx, silent]

/-! ### One symbol in each state of the receiver -/

/-- An expected symbol of the sync word is counted (R195). -/
theorem rxArm_sync_next (hst : s.rx.state = .sync) (hc : c = syncTone s.cfg s.rx.cnt.toNat) (hcnt : s.rx.cnt ≠ 7) :
    rxArm true c s = .next { s with rx := { s.rx with cnt := s.rx.cnt + 1 } } := by
  rw [rxArm, hst, rxSync, if_neg (by simp), if_neg (by simpa using hc), if_neg hcnt]

/-- The eighth opens the payload (R195). -/
theorem rxArm_sync_last (hst : s.rx.state = .sync) (hc : c = syncTone s.cfg s.rx.cnt.toNat) (hcnt : s.rx.cnt = 7) :
    rxArm true c s = .next (setBits 0 (setRx .payload 0 s)) := by
  rw [rxArm, hst, rxSync, if_neg (by simp), if_neg (by simpa using hc), if_pos hcnt]
  rfl

/-- A symbol of the payload is taken in (R197). -/
theorem rxArm_payload_next (hst : s.rx.state = .payload) (hcnt : s.rx.cnt ≠ 39) :
    rxArm true c s =
      .next (setBits (pushDibit s.rx.bits c) { s with rx := { s.rx with cnt := s.rx.cnt + 1 } }) := by
  rw [rxArm, hst, rxPayload, if_neg (by simp), if_neg hcnt]
  rfl

/-- The fortieth is taken in and the whole is checked (R197). -/
theorem rxArm_payload_last (hst : s.rx.state = .payload) (hcnt : s.rx.cnt = 39) :
    rxArm true c s = rxCheck (pushDibit s.rx.bits c) (setBits (pushDibit s.rx.bits c) s) := by
  rw [rxArm, hst, rxPayload, if_neg (by simp), if_pos hcnt]

/-! ### A reception, symbol by symbol -/

/-- `j` symbol periods after `s`, with the ledger as it was and nothing to transmit. -/
structure Listening (s : State) (j : Nat) (u : State) : Prop where
  now : u.now = s.now + j
  cfg : u.cfg = s.cfg
  led : u.led = s.led
  quiet : transmitQuiet u

/-- The clock and the symbol pass, the receiver writes nothing else so far. -/
theorem Listening.hearing {j : Nat} (c : Tone) (h : Listening s j u) : Listening s (j + 1) (hearing c u) where
  now := by rw [Machine.hearing, shiftIn_now, h.now, Nat.add_assoc]
  cfg := h.cfg
  led := h.led
  quiet := h.quiet

/-- Where the reception of SYNC_WORD and the eighty bits `p`, begun in `s`, stands after a number of symbols: in the sync
word, in the payload, or past the check. -/
inductive Reception (s : State) (p : BitVec 80) : Nat → State → Prop
  | sync {j : Nat} {u : State} (hear : Listening s j u) (state : u.rx.state = .sync) (cnt : u.rx.cnt.toNat = j)
      (le : j ≤ 7) : Reception s p j u
  | payload {k : Nat} {u : State} (hear : Listening s (8 + k) u) (state : u.rx.state = .payload)
      (cnt : u.rx.cnt.toNat = k) (le : k ≤ 39) (bits : u.rx.bits = p >>> (80 - 2 * k)) : Reception s p (8 + k) u
  | checked {u v : State} (hear : Listening s 48 u) (check : rxCheck p u = .next v) : Reception s p 48 (silent v)

theorem Reception.sync_symbol {j : Nat} {rnd : Word} (hear : Listening s j u) (hstate : u.rx.state = .sync)
    (hcnt : u.rx.cnt.toNat = j) (hle : j ≤ 7) (h : symbolTick (syncTone s.cfg j) rnd u = .next v) :
    Reception s p (j + 1) v := by
  obtain ⟨w, hw, rfl⟩ := symbolTick_quiet hear.quiet h
  obtain ⟨hnow, hcfg, hled, hquiet⟩ := hear.hearing (syncTone s.cfg j)
  have hc : syncTone s.cfg j = syncTone (hearing (syncTone s.cfg j) u).cfg u.rx.cnt.toNat := by rw [hcfg, hcnt]
  by_cases hlast : j = 7
  · have h7 : u.rx.cnt = 7 := BitVec.eq_of_toNat_eq (hcnt.trans hlast)
    obtain rfl := Host.Outcome.next.inj ((rxArm_sync_last (s := hearing _ u) hstate hc h7).symm.trans hw)
    subst hlast
    exact .payload (k := 0) ⟨hnow, hcfg, hled, hquiet⟩ rfl rfl (by omega) (BitVec.ushiftRight_eq_zero le_rfl).symm
  · have h7 : u.rx.cnt ≠ 7 := fun h7 => hlast (by rw [← hcnt, h7]; rfl)
    obtain rfl := Host.Outcome.next.inj ((rxArm_sync_next (s := hearing _ u) hstate hc h7).symm.trans hw)
    have hnext : (u.rx.cnt + 1).toNat = j + 1 := by rw [toNat_add_one (by omega), hcnt]
    exact .sync ⟨hnow, hcfg, hled, hquiet⟩ hstate hnext (by omega)

theorem Reception.payload_symbol {k : Nat} {rnd : Word} (hear : Listening s (8 + k) u) (hstate : u.rx.state = .payload)
    (hcnt : u.rx.cnt.toNat = k) (hle : k ≤ 39) (hbits : u.rx.bits = p >>> (80 - 2 * k))
    (h : symbolTick (frameSymbol (s.cfg.syncWord ++ p) (8 + k)) rnd u = .next v) : Reception s p (8 + k + 1) v := by
  have hpush := pushDibit_frameSymbol s.cfg.syncWord p hle
  rw [← hbits] at hpush
  generalize frameSymbol (s.cfg.syncWord ++ p) (8 + k) = c at h hpush
  obtain ⟨w, hw, rfl⟩ := symbolTick_quiet hear.quiet h
  obtain ⟨hnow, hcfg, hled, hquiet⟩ := hear.hearing c
  by_cases hlast : k = 39
  · have h39 : u.rx.cnt = 39 := BitVec.eq_of_toNat_eq (hcnt.trans hlast)
    have hcheck := (rxArm_payload_last (s := hearing c u) hstate h39).symm.trans hw
    subst hlast
    have hall : pushDibit (hearing c u).rx.bits c = p := hpush.trans (BitVec.ushiftRight_zero p)
    rw [hall] at hcheck
    exact .checked (u := setBits p (hearing c u)) ⟨hnow, hcfg, hled, hquiet⟩ hcheck
  · have h39 : u.rx.cnt ≠ 39 := fun h39 => hlast (by rw [← hcnt, h39]; rfl)
    obtain rfl := Host.Outcome.next.inj ((rxArm_payload_next (s := hearing c u) hstate h39).symm.trans hw)
    have hnext : (u.rx.cnt + 1).toNat = k + 1 := by rw [toNat_add_one (by omega), hcnt]
    exact .payload (k := k + 1) ⟨hnow, hcfg, hled, hquiet⟩ hstate hnext (by omega) hpush

/-- Every symbol of the frame takes the reception one place on. -/
theorem Reception.symbol {j : Nat} {rnd : Word} (hj : j < 48) (hr : Reception s p j u)
    (h : symbolTick (frameSymbol (s.cfg.syncWord ++ p) j) rnd u = .next v) : Reception s p (j + 1) v := by
  cases hr with
  | sync hear hstate hcnt hle => exact .sync_symbol hear hstate hcnt hle (frameSymbol_sync s.cfg p hle ▸ h)
  | payload hear hstate hcnt hle hbits => exact .payload_symbol hear hstate hcnt hle hbits h
  | checked => exact absurd hj (lt_irrefl 48)

/-- A reception of forty-eight symbols is past the check. -/
theorem Reception.is_checked {j : Nat} (hr : Reception s p j t) (hj : j = 48) :
    ∃ u v, Listening s 48 u ∧ rxCheck p u = .next v ∧ t = silent v := by
  cases hr with
  | sync _ _ _ hle => omega
  | payload _ _ _ hle _ => omega
  | checked hear hcheck => exact ⟨_, _, hear, hcheck, rfl⟩

/-- Forty-eight symbols after the lock, the eighty bits after SYNC_WORD have been checked. -/
theorem Reception.of_symbolTicks {rnds : List Word} (hstate : s.rx.state = .sync) (hcnt : s.rx.cnt = 0)
    (hq : transmitQuiet s) (h : symbolTicks (frameSymbols (s.cfg.syncWord ++ p)) rnds s = .next t) :
    ∃ u v, Listening s 48 u ∧ rxCheck p u = .next v ∧ t = silent v := by
  have hstart : Reception s p 0 s := .sync ⟨rfl, rfl, rfl, hq⟩ hstate (by rw [hcnt]; rfl) (by omega)
  have hlen := frameSymbols_length (s.cfg.syncWord ++ p)
  refine (symbolTicks_induct hstart (fun j hj rnd u v hr hu => ?_) h).is_checked hlen
  exact hr.symbol (hlen ▸ hj) (by simpa [frameSymbols] using hu)

/-! ### What a right CRC delivers -/

theorem enterCooldown_rx (h : s.cfg.cooldownTicks ≤ 63) :
    (enterCooldown s).rx.cnt.toNat = s.cfg.cooldownTicks ∧
    (enterCooldown s).rx.state = if s.cfg.cooldownTicks = 0 then .idle else .cooldown := by
  unfold enterCooldown
  split
  case isTrue h0 => exact ⟨h0.symm, rfl⟩
  case isFalse => exact ⟨Nat.mod_eq_of_lt (by omega), rfl⟩

/-- EMIT calls LEDGER with the fields of its data word (R200). -/
theorem emit_led {d : DataWord} (h : emit d s = .next t) :
    t.led = ⟨true, max s.led.inhibitUntil (ledgerUntil (dataTtl d) s), dataDeviceId d, dataReason d, s.now⟩ := by
  obtain ⟨u, hu, rfl⟩ := emit_eq_next.1 h
  obtain ⟨-, hled⟩ := ledger_eq_next.1 hu
  rw [raise_led, hled, emitRecord_changes]
  rfl

/-- RX.CHECK with a right CRC: the record, the ledger and the cooldown of its data word (R198). -/
theorem rxCheck_delivers {b : BitVec 80} (hcrc : dataCrc (payloadData b) = payloadCrc b)
    (hcd : s.cfg.cooldownTicks ≤ 63) (h : rxCheck b s = .next t) :
    t.out = recordOf (payloadData b) ∧
    t.led = ⟨true, max s.led.inhibitUntil (ledgerUntil (dataTtl (payloadData b)) s), dataDeviceId (payloadData b),
      dataReason (payloadData b), s.now⟩ ∧
    t.rx.cnt.toNat = s.cfg.cooldownTicks ∧ t.rx.state = if s.cfg.cooldownTicks = 0 then .idle else .cooldown := by
  rw [rxCheck, if_pos hcrc] at h
  obtain ⟨u, hu, ht⟩ := andThen_eq_next.1 h
  obtain rfl := Host.Outcome.next.inj ht
  have hcfg : u.cfg = s.cfg := by rw [emit_changes hu]
  have hout : u.out = recordOf (payloadData b) := by rw [emit_changes hu]
  obtain ⟨hcnt, hstate⟩ := enterCooldown_rx (hcfg ▸ hcd)
  rw [hcfg] at hcnt hstate
  refine ⟨?out, ?led, hcnt, hstate⟩
  case out => rw [enterCooldown_changes, hout]
  case led => rw [enterCooldown_changes, emit_led hu]

/-! ### The bits of a frame -/

/-- The data word of a frame (30_encoding.md R104). -/
def wireData (f : WireFrame) : DataWord :=
  f.version ++ f.msgType ++ f.priority ++ f.flags ++ f.deviceId ++ f.reason ++ f.ttl ++ f.seq

/-- A frame is SYNC_WORD, the data word and the CRC (30_encoding.md R103). -/
theorem wireBits_eq_append (sync : BitVec 16) (f : WireFrame) : wireBits sync f = sync ++ (wireData f ++ f.crc16) := by
  have hlow (bits : FrameBits) : wireData (wireFields bits) ++ (wireFields bits).crc16 = bits.extractLsb' 0 80 := by
    simp only [wireData, wireFields, BitVec.extractLsb'_append_extractLsb'_eq_extractLsb']
  refine (eq_append_iff (a := 16) (b := 80)).2 ⟨wireBits_sync sync f, ?_⟩
  rw [← hlow, wireFields_wireBits]

theorem wireData_fields (f : WireFrame) :
    dataDeviceId (wireData f) = f.deviceId ∧ dataReason (wireData f) = f.reason ∧
    dataPriority (wireData f) = f.priority ∧
    dataTtl (wireData f) = f.ttl ∧ dataSeq (wireData f) = f.seq := by
  simp (disch := omega) only [wireData, dataDeviceId, dataReason, dataPriority, dataTtl, dataSeq,
    BitVec.extractLsb'_append_eq_of_le, BitVec.extractLsb'_append_eq_of_add_le]
  exact ⟨BitVec.extractLsb'_eq_self, BitVec.extractLsb'_eq_self, BitVec.extractLsb'_eq_self, BitVec.extractLsb'_eq_self,
    BitVec.extractLsb'_eq_self⟩

/-- Settles O37: the symbols complete one by one; heard from the lock on, they end in RX.CHECK of the frame's own bits. -/
theorem frameAfterLockIsDelivered : Obligations.FrameAfterLockIsDelivered := by
  unfold Obligations.FrameAfterLockIsDelivered
  intro f rnds s hclock
  have hlen := frameSymbols_length (wireBits s.cfg.syncWord f)
  obtain ⟨t, ht, hpass⟩ := symbolTicks_complete (frameSymbols (wireBits s.cfg.syncWord f)) rnds (hlen.symm ▸ hclock)
  rw [hlen] at hpass
  refine ⟨t, ht, hpass.now, hpass.an, hpass.kept.cam (by simp), hpass.kept.nfAcc (by simp), hpass.win, hpass.kept.cfg,
    ?_⟩
  intro hstate hcnt hquiet hcd hcrc
  rw [wireBits_eq_append] at ht
  obtain ⟨u, v, hear, hcheck, rfl⟩ := Reception.of_symbolTicks hstate hcnt hquiet ht
  have hdata : payloadData (wireData f ++ f.crc16) = wireData f := BitVec.extractLsb'_append_eq_left
  have hcrc' : payloadCrc (wireData f ++ f.crc16) = f.crc16 := BitVec.extractLsb'_append_eq_right
  obtain ⟨hout, hled, hcnt', hstate'⟩ :=
    rxCheck_delivers (by rw [hdata, hcrc']; exact hcrc.symm) (hear.cfg ▸ hcd) hcheck
  obtain ⟨hid, hreason, hprio, httl, hseq⟩ := wireData_fields f
  rw [hdata, recordOf, hid, hreason, hprio, httl, hseq] at hout
  rw [hdata, ledgerUntil, hid, hreason, httl, hear.now, hear.cfg, hear.led] at hled
  rw [hear.cfg] at hcnt' hstate'
  have hnow : (silent v).now = s.now + 48 := hpass.now
  have hled' : (silent v).led = v.led := rfl
  rw [hnow, hled', hled]
  exact ⟨hout, rfl, rfl, rfl, rfl, rfl, hcnt', hstate'⟩

end Sys2Proof.Machine
end

section
/-! PROOFS. The tick with a window or without one: what it runs in each case, when it completes (40_tick.md R140, R141). -/

namespace Sys2Proof.Machine

variable {s t : State}

/-! ### The three kinds of tick -/

theorem exec_tickWin (win : List Sample) (rnd : Word) (s : State) :
    exec (.tickWin win rnd) s = tick true rnd { s with win := win } := rfl

theorem exec_tickMiss (rnd : Word) (s : State) : exec (.tickMiss rnd) s = tick false rnd { s with win := [] } := rfl

theorem windowOk_true_eq_true_iff : windowOk true s = true ↔ s.win.length = windowLen s.cfg := by simp [windowOk]

theorem windowOk_true_eq_false_iff : windowOk true s = false ↔ s.win.length ≠ windowLen s.cfg := by simp [windowOk]

/-- Past the clock, a tick is its front and its tail, both told whether the window was observed. -/
theorem tick_of_clock (winOk : Bool) (rnd : Word) (h : s.now + 1 < 2 ^ s.cfg.wNow) :
    tick winOk rnd s =
      tickTail (windowOk winOk s && !s.tx.active) rnd (tickFront (windowOk winOk s && !s.tx.active)
        (if windowOk winOk s then { s with now := s.now + 1 } else raise .gap { s with now := s.now + 1 })) := by
  rw [tick, advanceClock_eq_next.2 ⟨h, rfl⟩]
  rfl

/-- A complete window while TED is silent is observed. -/
theorem tick_observed {winOk : Bool} (rnd : Word) (h : s.now + 1 < 2 ^ s.cfg.wNow) (hok : windowOk winOk s = true)
    (hsilent : s.tx.active = false) :
    tick winOk rnd s = tickTail true rnd (tickFront true { s with now := s.now + 1 }) := by
  rw [tick_of_clock winOk rnd h, hok, hsilent]
  rfl

/-- A complete window during a transmission is blanked (R141 (b)): nothing is observed, and no E_GAP is raised. -/
theorem tick_blanked {winOk : Bool} (rnd : Word) (h : s.now + 1 < 2 ^ s.cfg.wNow) (hok : windowOk winOk s = true)
    (hactive : s.tx.active = true) :
    tick winOk rnd s = tickTail false rnd (tickFront false { s with now := s.now + 1 }) := by
  rw [tick_of_clock winOk rnd h, hok, hactive]
  rfl

/-- A missing window raises E_GAP, whether TED transmits or not (R141 (a), 60_exceptions.md R321). -/
theorem tick_missed {winOk : Bool} (rnd : Word) (h : s.now + 1 < 2 ^ s.cfg.wNow) (hok : windowOk winOk s = false) :
    tick winOk rnd s = tickTail false rnd (tickFront false (raise .gap { s with now := s.now + 1 })) := by
  rw [tick_of_clock winOk rnd h, hok]
  rfl

/-! ### Front and tail as the operations they run -/

theorem runAll_tickFront_observed (s : State) :
    runAll [.analyze, .decideSym true, .monitor] s = .next (tickFront true s) := rfl

theorem tickTail_observed_eq_runAll (rnd : Word) (s : State) :
    tickTail true rnd s =
      runAll [.rxstep s.sd.valid s.sd.tone, .nfupdate, .actstep (rnd.extractLsb' 16 16),
        .schstep (rnd.extractLsb' 0 16), .txstep] s := rfl

/-- Without an observed window the decision is the invalid symbol, and the receiver runs on it. -/
theorem tick_unobserved_eq_runAll (rnd : Word) (s : State) :
    tickTail false rnd (tickFront false s) =
      runAll [.decideSym false, .rxstep false 0, .actstep (rnd.extractLsb' 16 16), .schstep (rnd.extractLsb' 0 16),
        .txstep] s := rfl

/-! ### Completion under the premise of 93 U1 -/

theorem tickFront_clockAhead {n : Nat} (obs : Bool) (h : clockAhead n s) : clockAhead n (tickFront obs s) := by
  cases obs with
  | false => exact h
  | true =>
    rw [tickFront, if_pos rfl, monitor_changes, decideSymbol_changes]
    exact h

theorem tickTail_completes (obs : Bool) (rnd : Word) (h : clockAhead 0 s) : ∃ t, tickTail obs rnd s = .next t := by
  obtain ⟨u, hu⟩ := rxStep_completes s.sd.valid s.sd.tone h
  exact ⟨_, andThen_eq_next.2 ⟨u, hu, rfl⟩⟩

theorem tick_completes (winOk : Bool) (rnd : Word) (h : clockAhead 1 s) : ∃ t, tick winOk rnd s = .next t := by
  rw [tick_of_clock winOk rnd (by omega)]
  refine tickTail_completes _ rnd (tickFront_clockAhead _ ?_)
  split <;> exact h

/-- Settles O39: past the clock the tick is its front, then its tail, and each is the run of its operations. -/
theorem tickObservesWindow : Obligations.TickObservesWindow := by
  unfold Obligations.TickObservesWindow
  intro win rnd s hlen hsilent
  rw [exec_tickWin]
  refine ⟨tick_completes (s := { s with win := win }) true rnd, fun hclock => ?_⟩
  refine ⟨_, runAll_tickFront_observed { s with win := win, now := s.now + 1 }, ?_⟩
  rw [tick_observed (s := { s with win := win }) rnd hclock (windowOk_true_eq_true_iff.2 hlen) hsilent,
    tickTail_observed_eq_runAll]

/-! ### What a missed tick leaves alone -/

theorem tick_missed_an {rnd : Word} (h : tick false rnd s = .next t) : t.an = s.an := by
  obtain ⟨u, hu, ht⟩ := andThen_eq_next.1 h
  obtain ⟨-, rfl⟩ := advanceClock_eq_next.1 hu
  exact (tickTail_unobserved_passed ht).an

/-- Settles O40: each of the three windows leads to an unobserved front and tail, two of them after E_GAP. -/
theorem tickWithoutWindow : Obligations.TickWithoutWindow := by
  unfold Obligations.TickWithoutWindow
  intro win rnd s
  rw [exec_tickMiss, exec_tickWin]
  refine ⟨fun hahead => ?completes, fun hclock => ⟨?missed, fun hlen => ?wrongLength, fun hlen hactive => ?blanked⟩⟩
  case completes =>
    obtain ⟨t, ht⟩ := tick_completes (s := { s with win := [] }) false rnd hahead
    have han := tick_missed_an ht
    have hkept := tick_missed_keptBut ht
    exact ⟨t, ht, han, hkept.cam (by simp), hkept.nfAcc (by simp)⟩
  case missed =>
    rw [tick_missed (s := { s with win := [] }) rnd hclock rfl, tick_unobserved_eq_runAll]
    rfl
  case wrongLength =>
    rw [tick_missed (s := { s with win := win }) rnd hclock (windowOk_true_eq_false_iff.2 hlen),
      tick_unobserved_eq_runAll]
    rfl
  case blanked =>
    rw [tick_blanked (s := { s with win := win }) rnd hclock (windowOk_true_eq_true_iff.2 hlen) hactive,
      tick_unobserved_eq_runAll]

end Sys2Proof.Machine
end

section
/-! PROOFS. The analyzer: GOERTZEL as a recurrence over the samples, ANALYZE as four of them
(41_tone_energy_analyzer.md R152, R153, R156). -/

namespace Sys2Proof

/-! ### Arrays indexed by a tone -/

@[simp] theorem Four.get_set_same {α : Type} (f : Four α) (t : Tone) (x : α) : (f.set t x).get t = x := by
  unfold Four.get Four.set
  split_ifs <;> rfl

/-- An array filled tone by tone holds at each tone what it was filled with there. -/
theorem Four.get_tabulated {α : Type} (f : Tone → α) (t : Tone) : Four.get ⟨f 0, f 1, f 2, f 3⟩ t = f t := by
  have ht : t = 0 ∨ t = 1 ∨ t = 2 ∨ t = 3 := by revert t; decide
  rcases ht with rfl | rfl | rfl | rfl <;> rfl

namespace Machine

variable {s : State}

/-! ### The recurrence, sample by sample -/

/-- The recurrence of tone `t` after the first `n` samples. -/
def recurrenceAfter (s : State) (t : Tone) (n : Nat) : Recurrence :=
  goertzelLoop s.cfg.wAcc (s.cfg.coeff.get t) ((List.range n).map (memRead s))

@[simp] theorem recurrenceAfter_zero (s : State) (t : Tone) : recurrenceAfter s t 0 = ⟨0, 0⟩ := rfl

theorem recurrenceAfter_succ (s : State) (t : Tone) (n : Nat) :
    recurrenceAfter s t (n + 1) =
      goertzelTurn s.cfg.wAcc (s.cfg.coeff.get t) (recurrenceAfter s t n) (memRead s n) := by
  simp [recurrenceAfter, goertzelLoop, List.range_succ]

theorem toneRecurrence_eq_recurrenceAfter (s : State) (t : Tone) :
    toneRecurrence s t = recurrenceAfter s t (windowLen s.cfg) := by
  rw [toneRecurrence, windowSamples_eq, recurrenceAfter]

/-- `>> 14` is the floor division of R152 by 2^14, the count read as an integer or as a natural number. -/
theorem shiftRight_fourteen (v : Int) : v >>> (14 : Int) = v / 2 ^ 14 ∧ v >>> (14 : Nat) = v / 2 ^ 14 :=
  ⟨(Int.shiftRight_natCast_right v 14).trans (Int.shiftRight_eq_div_pow v 14), Int.shiftRight_eq_div_pow v 14⟩

theorem goertzelTurn_s1 (w : Nat) (coeff : BitVec 16) (r : Recurrence) (x : Int) :
    (goertzelTurn w coeff r x).s1 = (x + coeff.toInt * r.s1 / 2 ^ 14 - r.s2).bmod (2 ^ w) := by
  simp [goertzelTurn, wrapSigned, shiftRight_fourteen]

/-- The older register holds what the newer one held a turn ago. -/
theorem goertzelTurn_s2 (w : Nat) (coeff : BitVec 16) (r : Recurrence) (x : Int) :
    (goertzelTurn w coeff r x).s2 = r.s1 := rfl

/-- The integer sequence of R152: `s[n−2]`, so that it begins with the two cleared registers. -/
def goertzelSeq (s : State) (t : Tone) (n : Nat) : Int := (recurrenceAfter s t n).s2

theorem goertzelSeq_succ (s : State) (t : Tone) (n : Nat) :
    goertzelSeq s t (n + 1) = (recurrenceAfter s t n).s1 := by
  rw [goertzelSeq, recurrenceAfter_succ, goertzelTurn_s2]

theorem goertzelSeq_add_two (s : State) (t : Tone) (n : Nat) :
    goertzelSeq s t (n + 2) =
      (memRead s n + (s.cfg.coeff.get t).toInt * goertzelSeq s t (n + 1) / 2 ^ 14 - goertzelSeq s t n).bmod
        (2 ^ s.cfg.wAcc) := by
  rw [goertzelSeq_succ, recurrenceAfter_succ, goertzelTurn_s1, goertzelSeq_succ, goertzelSeq]

theorem toneRecurrence_eq_goertzelSeq (s : State) (t : Tone) :
    toneRecurrence s t = ⟨goertzelSeq s t (windowLen s.cfg + 1), goertzelSeq s t (windowLen s.cfg)⟩ := by
  rw [toneRecurrence_eq_recurrenceAfter, goertzelSeq_succ, goertzelSeq]

/-! ### Samples and energies -/

theorem memRead_of_getElem? {n : Nat} {x : Sample} (h : s.win[n]? = some x) :
    memRead s n = x.bmod (2 ^ s.cfg.wSample) := by
  simp [memRead, signExtended, h]

/-- Saturation is the clamp to 0 .. 2^w − 1 in the integers. -/
theorem saturated_cast (w : Nat) (v : Int) : (saturated w v : Int) = min (max 0 v) (2 ^ w - 1) := by
  have hp : 1 ≤ 2 ^ w := Nat.one_le_two_pow
  rw [saturated, Nat.cast_min, Int.ofNat_toNat, max_comm, Nat.cast_sub hp]
  norm_cast

theorem goertzelRaw_eq (coeff : BitVec 16) (r : Recurrence) :
    goertzelRaw coeff r = r.s1 ^ 2 + r.s2 ^ 2 - coeff.toInt * r.s1 * r.s2 / 2 ^ 14 := by
  simp [goertzelRaw, shiftRight_fourteen, sq]

theorem energyFrom_cast (s : State) (t : Tone) (r : Recurrence) :
    (energyFrom s t r : Int) =
      min (max 0 (r.s1 ^ 2 + r.s2 ^ 2 - (s.cfg.coeff.get t).toInt * r.s1 * r.s2 / 2 ^ 14)) (2 ^ s.cfg.wE - 1) := by
  rw [energyFrom, saturated_cast, goertzelRaw_eq]

/-! ### GOERTZEL -/

theorem exec_goertzel (t : Tone) (s : State) :
    exec (.goertzel t) s = .next { goertzelRegs t s with ret := energyFrom s t (toneRecurrence s t) } := rfl

theorem goertzelRegs_s1_get (t : Tone) (s : State) : (goertzelRegs t s).an.s1.get t = (toneRecurrence s t).s1 := by
  simp

theorem goertzelRegs_s2_get (t : Tone) (s : State) : (goertzelRegs t s).an.s2.get t = (toneRecurrence s t).s2 := by
  simp

/-- GOERTZEL writes the two registers of its own tone and no other. -/
theorem goertzelRegs_changes (t : Tone) (s : State) :
    goertzelRegs t s = { s with an := { s.an with
      s1 := s.an.s1.set t ((goertzelRegs t s).an.s1.get t)
      s2 := s.an.s2.set t ((goertzelRegs t s).an.s2.get t) } } := by
  rw [goertzelRegs_s1_get, goertzelRegs_s2_get]
  rfl

/-- Settles O19: the loop, sample by sample, is the integer sequence; the registers hold its last two values. -/
theorem goertzelRecurrence : Obligations.GoertzelRecurrence := by
  unfold Obligations.GoertzelRecurrence
  intro t s
  have hend := toneRecurrence_eq_goertzelSeq s t
  refine ⟨_, goertzelSeq s t, rfl, rfl, fun n x hx => memRead_of_getElem? hx, fun n _ => goertzelSeq_add_two s t n,
    exec_goertzel t s, ?frame, ?s1, ?s2, ?energy⟩
  case frame => exact congrArg ({ · with ret := energyFrom s t (toneRecurrence s t) }) (goertzelRegs_changes t s)
  case s1 => exact (goertzelRegs_s1_get t s).trans (by rw [hend])
  case s2 => exact (goertzelRegs_s2_get t s).trans (by rw [hend])
  case energy => exact (energyFrom_cast s t _).trans (by rw [hend])

/-! ### ANALYZE -/

theorem exec_analyze (s : State) : exec .analyze s = .next (analyze s) := rfl

theorem analyze_s1_get (s : State) (t : Tone) : (analyze s).an.s1.get t = (toneRecurrence s t).s1 :=
  Four.get_tabulated (fun c => (toneRecurrence s c).s1) t

theorem analyze_s2_get (s : State) (t : Tone) : (analyze s).an.s2.get t = (toneRecurrence s t).s2 :=
  Four.get_tabulated (fun c => (toneRecurrence s c).s2) t

theorem analyze_energy_get (s : State) (t : Tone) :
    (analyze s).an.energy.get t = energyFrom s t (toneRecurrence s t) :=
  Four.get_tabulated (fun c => energyFrom s c (toneRecurrence s c)) t

/-- Settles O20: ANALYZE and GOERTZEL take their values from the same recurrence of the tone. -/
theorem analyzeRunsFourGoertzels : Obligations.AnalyzeRunsFourGoertzels := by
  unfold Obligations.AnalyzeRunsFourGoertzels
  intro s
  refine ⟨analyze s, exec_analyze s, analyze_changes s, analyze_totalIsSum s, fun t => ?_⟩
  exact ⟨_, exec_goertzel t s, analyze_energy_get s t,
    (analyze_s1_get s t).trans (goertzelRegs_s1_get t s).symm,
    (analyze_s2_get s t).trans (goertzelRegs_s2_get t s).symm⟩

/-! ### A window of zeros -/

/-- A sample of 0 leaves cleared registers cleared, whatever the coefficient and the width. -/
theorem goertzelTurn_silent (w : Nat) (coeff : BitVec 16) : goertzelTurn w coeff ⟨0, 0⟩ 0 = ⟨0, 0⟩ := by
  simp [goertzelTurn, wrapSigned]

theorem recurrenceAfter_silent {t : Tone} {n : Nat} (h : ∀ m, m < n → memRead s m = 0) :
    recurrenceAfter s t n = ⟨0, 0⟩ := by
  induction n with
  | zero => rfl
  | succ n ih =>
    rw [recurrenceAfter_succ, ih fun m hm => h m (hm.trans n.lt_succ_self), h n n.lt_succ_self, goertzelTurn_silent]

theorem energyFrom_silent (s : State) (t : Tone) : energyFrom s t ⟨0, 0⟩ = 0 := by
  simp [energyFrom, goertzelRaw, saturated]

/-- Settles O21: the recurrence of every tone stays at 0, and so do the energies and their sum. -/
theorem silentWindowHasNoEnergy : Obligations.SilentWindowHasNoEnergy := by
  unfold Obligations.SilentWindowHasNoEnergy
  intro s h
  have hsilent (t : Tone) : toneRecurrence s t = ⟨0, 0⟩ :=
    (toneRecurrence_eq_recurrenceAfter s t).trans (recurrenceAfter_silent h)
  have htotal : totalOf ⟨0, 0, 0, 0⟩ = 0 := rfl
  rw [exec_analyze]
  simp only [analyze, hsilent, energyFrom_silent, htotal]

end Machine
end Sys2Proof
end

section
/-! PROOFS. The decider, the monitor and the noise floor (42_symbol_decider_monitor.md R166 to R177). -/

namespace Sys2Proof.Machine

variable {s : State}

/-! ### ARGMAX and SECOND (R166, R167) -/

theorem forall_tone {p : Tone → Prop} (h0 : p 0) (h1 : p 1) (h2 : p 2) (h3 : p 3) (t : Tone) : p t := by
  have ht : t = 0 ∨ t = 1 ∨ t = 2 ∨ t = 3 := by revert t; decide
  obtain rfl | rfl | rfl | rfl := ht <;> assumption

theorem energyOf_le_argmax (s : State) (u : Tone) : energyOf s u ≤ energyOf s (argmax s) := by
  revert u
  unfold argmax
  dsimp only
  split_ifs
  all_goals refine forall_tone ?_ ?_ ?_ ?_ <;> omega

/-- The tones before the winner have less energy: a tie goes to the lower tone. -/
theorem energyOf_lt_argmax (s : State) (u : Tone) (h : u.toNat < (argmax s).toNat) :
    energyOf s u < energyOf s (argmax s) := by
  revert u
  unfold argmax
  dsimp only
  split_ifs
  all_goals refine forall_tone ?_ ?_ ?_ ?_ <;> bv_omega

/-- The two properties determine the tone. -/
theorem argmax_eq {m : Tone} (hmax : ∀ u, energyOf s u ≤ energyOf s m)
    (hlow : ∀ u : Tone, u.toNat < m.toNat → energyOf s u < energyOf s m) : argmax s = m := by
  obtain hlt | heq | hgt := Nat.lt_trichotomy (argmax s).toNat m.toNat
  · exact absurd (energyOf_le_argmax s m) (Nat.not_le.mpr (hlow _ hlt))
  · exact BitVec.eq_of_toNat_eq heq
  · exact absurd (hmax (argmax s)) (Nat.not_le.mpr (energyOf_lt_argmax s m hgt))

theorem energyBeside_of_ne {m u : Tone} (h : u ≠ m) : energyBeside s m u = energyOf s u := if_neg h

theorem energyBeside_le_secondEnergy (s : State) (m u : Tone) : energyBeside s m u ≤ secondEnergy s m := by
  revert u
  unfold secondEnergy
  refine forall_tone ?_ ?_ ?_ ?_ <;> omega

theorem secondEnergy_le {m : Tone} {e : Nat} (h : ∀ u, u ≠ m → energyOf s u ≤ e) : secondEnergy s m ≤ e := by
  have hbeside (u : Tone) : energyBeside s m u ≤ e := by
    unfold energyBeside
    split
    · exact e.zero_le
    · next hu => exact h u hu
  exact max_le (max_le (hbeside 0) (hbeside 1)) (max_le (hbeside 2) (hbeside 3))

theorem secondEnergy_eq {m second : Tone} (hne : second ≠ m) (hmax : ∀ u, u ≠ m → energyOf s u ≤ energyOf s second) :
    secondEnergy s m = energyOf s second :=
  (secondEnergy_le hmax).antisymm (energyBeside_of_ne hne ▸ energyBeside_le_secondEnergy s m second)

/-! ### DECIDE (R168) -/

theorem exec_decideSym (obs : Bool) (s : State) : exec (.decideSym obs) s = .next (decideSymbol obs s) := rfl

theorem decideSymbol_unobserved (s : State) : decideSymbol false s = { s with sd := ⟨false, 0⟩ } := rfl

theorem decideSymbol_observed (s : State) : decideSymbol true s =
    if gateOk s ∧ confOk s then { s with sd := ⟨true, argmax s⟩ }
    else { s with sd := ⟨false, 0⟩, events := s.events ++ [(s.now, .reject)] } := by
  simp only [decideSymbol, decideObserved, raise, if_true, Bool.and_eq_true]

theorem gateOk_iff {m : Tone} (hm : argmax s = m) :
    gateOk s ↔ energyOf s m * s.cfg.gateDen ≥ noiseFloor s * s.cfg.gateNum := by
  rw [gateOk, hm, decide_eq_true_iff]

theorem confOk_iff {m second : Tone} (hm : argmax s = m) (hsecond : secondEnergy s m = energyOf s second) :
    confOk s ↔ energyOf s m * s.cfg.confDen ≥ s.cfg.confNum * (energyOf s second + s.cfg.eps) := by
  rw [confOk, hm, hsecond, decide_eq_true_iff]

/-- Settles O22: the winner and the runner-up of the statement are ARGMAX and SECOND, and the two tests are `gate_ok`
and `conf_ok`. -/
theorem decideWindow : Obligations.DecideWindow := by
  unfold Obligations.DecideWindow
  intro s
  refine ⟨by rw [exec_decideSym, decideSymbol_unobserved], ⟨_, exec_decideSym true s⟩, ?decision⟩
  intro m second hmax hlow hne hothers
  have hm : argmax s = m := argmax_eq hmax hlow
  have hsecond : secondEnergy s m = energyOf s second := secondEnergy_eq hne hothers
  rw [exec_decideSym, decideSymbol_observed, apply_ite Host.Outcome.next]
  exact if_congr (and_congr (gateOk_iff hm) (confOk_iff hm hsecond)) (by rw [hm]) rfl

/-! ### MONITOR (R176) -/

theorem exec_monitor (s : State) : exec .monitor s = .next (monitor s) := rfl

theorem monitor_of_agrees (h : aboveThreshold s = s.cam.busy) : monitor s = { s with cam := ⟨s.cam.busy, 0⟩ } := by
  simp [monitor, h]

theorem monitor_of_contradicts_last (h : aboveThreshold s ≠ s.cam.busy) (hk : s.cfg.camK ≤ s.cam.cnt.toNat + 1) :
    monitor s = { s with cam := ⟨!s.cam.busy, 0⟩ } := by
  rw [monitor, if_pos (bne_iff_ne.mpr h), if_pos hk]

theorem monitor_of_contradicts_early (h : aboveThreshold s ≠ s.cam.busy) (hk : s.cam.cnt.toNat + 1 < s.cfg.camK) :
    monitor s = { s with cam := ⟨s.cam.busy, s.cam.cnt + 1⟩ } := by
  rw [monitor, if_pos (bne_iff_ne.mpr h), if_neg (Nat.not_le.mpr hk)]

/-- The state with `n` contradicting windows counted. -/
def counted (n : Nat) (s : State) : State := { s with cam := ⟨s.cam.busy, BitVec.ofNat 8 n⟩ }

theorem counted_cnt_toNat {n : Nat} (h : n ≤ 255) : (counted n s).cam.cnt.toNat = n :=
  (BitVec.toNat_ofNat n 8).trans (Nat.mod_eq_of_lt (by omega))

/-- Counting leaves the flag, the total and the floor as they were, so the next window contradicts too. -/
theorem counted_contradicts (n : Nat) (h : aboveThreshold s ≠ s.cam.busy) :
    aboveThreshold (counted n s) ≠ (counted n s).cam.busy := h

theorem runAll_replicate_succ (i : Instr) (n : Nat) (s : State) :
    runAll (List.replicate (n + 1) i) s = andThen (runAll (List.replicate n i) s) (exec i) := by
  rw [List.replicate_succ', runAll_append]
  congr 1
  funext t
  rw [runAll_cons]
  cases exec i t <;> rfl

theorem runAll_monitor_counts (hk : s.cfg.camK ≤ 255) (hcnt : s.cam.cnt = 0) (h : aboveThreshold s ≠ s.cam.busy)
    {n : Nat} (hn : n < s.cfg.camK) : runAll (List.replicate n .monitor) s = .next (counted n s) := by
  induction n with
  | zero =>
    have hstart : counted 0 s = s := by rw [counted, show BitVec.ofNat 8 0 = s.cam.cnt from hcnt.symm]
    rw [hstart]
    rfl
  | succ n ih =>
    have hcount : (counted n s).cam.cnt.toNat = n := counted_cnt_toNat (by omega)
    rw [runAll_replicate_succ, ih (by omega), andThen_next, exec_monitor,
      monitor_of_contradicts_early (counted_contradicts n h) (hcount.symm ▸ hn)]
    simp only [counted, BitVec.ofNat_add]
    rfl

theorem runAll_monitor_flips (hk : s.cfg.camK ≤ 255) (hpos : 1 ≤ s.cfg.camK) (hcnt : s.cam.cnt = 0)
    (h : aboveThreshold s ≠ s.cam.busy) :
    runAll (List.replicate s.cfg.camK .monitor) s = .next { s with cam := ⟨!s.cam.busy, 0⟩ } := by
  obtain ⟨n, hn⟩ : ∃ n, s.cfg.camK = n + 1 := ⟨s.cfg.camK - 1, by omega⟩
  have hcount : (counted n s).cam.cnt.toNat = n := counted_cnt_toNat (by omega)
  have hlast : (counted n s).cfg.camK ≤ (counted n s).cam.cnt.toNat + 1 := by rw [hcount]; exact hn.le
  rw [hn, runAll_replicate_succ, runAll_monitor_counts hk hcnt h (by omega), andThen_next, exec_monitor,
    monitor_of_contradicts_last (counted_contradicts n h) hlast]
  rfl

/-- Settles O23: one window by the three cases of MONITOR; a run by induction on its windows, up to the CAM_K-th. -/
theorem monitorDebouncesFlag : Obligations.MonitorDebouncesFlag := by
  unfold Obligations.MonitorDebouncesFlag
  intro s hk
  refine ⟨⟨monitor s, exec_monitor s, monitor_changes s, fun hagree => ?agrees, fun hcontra => ⟨?last, ?early⟩⟩,
    fun n hpos hcnt hcontra => ⟨runAll_monitor_counts hk hcnt hcontra, ?flips⟩⟩
  case agrees => rw [monitor_of_agrees hagree]
  case last =>
    intro hlast
    rw [monitor_of_contradicts_last hcontra hlast]
  case early =>
    intro hearly
    rw [monitor_of_contradicts_early hcontra hearly]
    exact ⟨rfl, toNat_add_one (by omega)⟩
  case flips =>
    rintro rfl
    exact runAll_monitor_flips hk hpos hcnt hcontra

/-! ### A leaky sum (R172, R173)

`a` leaks its `p`-th part and takes `x` in. With `a = q × p + r` the quotient `q` moves toward `x`. -/

theorem leak_div_le {a x p b : Nat} (hp : 0 < p) (ha : a / p ≤ b) (hx : x ≤ b) : (a - a / p + x) / p ≤ b := by
  have hself : a / p ≤ a := Nat.div_le_self a p
  have hrem : a < p * (a / p + 1) := Nat.lt_mul_div_succ a hp
  obtain ⟨d, hd⟩ : ∃ d, b = a / p + d := ⟨b - a / p, by omega⟩
  have hd_le : d ≤ p * d := Nat.le_mul_of_pos_left d hp
  have hexpand : p * (b + 1) = p * (a / p + 1) + p * d := by rw [hd]; ring
  refine Nat.lt_succ_iff.mp (Nat.div_lt_of_lt_mul (?_ : _ < p * (b + 1)))
  omega

theorem le_leak_div {a x p b : Nat} (hp : 0 < p) (ha : b ≤ a / p) (hx : b ≤ x) : b ≤ (a - a / p + x) / p := by
  have hrem : a / p * p ≤ a := Nat.div_mul_le_self a p
  obtain ⟨d, hd⟩ : ∃ d, a / p = b + d := ⟨a / p - b, by omega⟩
  have hd_le : d ≤ d * p := Nat.le_mul_of_pos_right d hp
  have hexpand : a / p * p = b * p + d * p := by rw [hd]; ring
  refine (Nat.le_div_iff_mul_le hp).mpr ?_
  omega

theorem leak_eq_self_iff {a x p : Nat} : a - a / p + x = a ↔ a / p = x := by
  have hself : a / p ≤ a := Nat.div_le_self a p
  omega

/-! ### NFUPDATE (R172) -/

theorem exec_nfupdate (s : State) : exec .nfupdate s = .next (nfUpdate s) := rfl

theorem noiseFloor_eq_div (s : State) : noiseFloor s = s.nfAcc.toNat / 2 ^ s.cfg.nfShift :=
  Nat.shiftRight_eq_div_pow _ _

theorem nfUpdate_of_held (h : s.cam.busy = true ∨ s.rx.state = .sync ∨ s.rx.state = .payload) : nfUpdate s = s := by
  refine if_neg fun ⟨hbusy, hsync, hpayload⟩ => ?_
  obtain h | h | h := h
  · exact absurd h (by simp [hbusy])
  · exact hsync h
  · exact hpayload h

theorem nfUpdate_of_moving (hbusy : s.cam.busy = false) (hrx : s.rx.state = .idle ∨ s.rx.state = .cooldown) :
    nfUpdate s = { s with nfAcc := nfNext s } := by
  refine if_pos ⟨hbusy, ?_⟩
  obtain h | h := hrx <;> simp [h]

/-- An accumulator in range does not wrap: its next value needs at most 64 + NF_SHIFT bits, which the register has. -/
theorem nfNext_toNat (hfits : noiseFloorFits s) (hshift : s.cfg.nfShift ≤ 16) :
    (nfNext s).toNat = s.nfAcc.toNat - s.nfAcc.toNat / 2 ^ s.cfg.nfShift + s.an.total.toNat := by
  have hp : 0 < 2 ^ s.cfg.nfShift := Nat.two_pow_pos _
  have hle := leak_add_le hp hfits (Nat.le_sub_one_of_lt s.an.total.isLt)
  have hwidth : 2 ^ (64 + s.cfg.nfShift) = 2 ^ 64 * 2 ^ s.cfg.nfShift := pow_add 2 64 _
  have hregister : 2 ^ (64 + s.cfg.nfShift) ≤ 2 ^ 80 := Nat.pow_le_pow_right (by norm_num) (by omega)
  rw [nfNext, BitVec.toNat_ofNat, Nat.shiftRight_eq_div_pow, Nat.mod_eq_of_lt (a := _ % _), Nat.mod_eq_of_lt] <;> omega

/-- Settles O24: the next accumulator is a leaky sum that does not wrap, and the floor is its quotient by 2^NF_SHIFT. -/
theorem noiseFloorFollowsTotal : Obligations.NoiseFloorFollowsTotal := by
  unfold Obligations.NoiseFloorFollowsTotal
  intro s hfits
  refine ⟨fun hheld => by rw [exec_nfupdate, nfUpdate_of_held hheld], fun hbusy hrx hshift => ?moving⟩
  have hp : 0 < 2 ^ s.cfg.nfShift := Nat.two_pow_pos _
  have hmoves := nfUpdate_of_moving hbusy hrx
  have hacc := nfNext_toNat hfits hshift
  have hfits' : (nfNext s).toNat ≤ (2 ^ 64 - 1) * 2 ^ s.cfg.nfShift := by simpa only [hmoves] using nfUpdate_fits hfits
  refine ⟨{ s with nfAcc := nfNext s }, by rw [exec_nfupdate, hmoves], rfl, hfits', hacc, ?_⟩
  simp only [noiseFloor_eq_div, ← BitVec.toNat_inj, hacc]
  exact ⟨fun hrise => ⟨le_leak_div hp le_rfl hrise, leak_div_le hp hrise le_rfl⟩,
    fun hfall => ⟨le_leak_div hp hfall le_rfl, leak_div_le hp le_rfl hfall⟩, leak_eq_self_iff⟩

end Sys2Proof.Machine
end

section
/-! PROOFS. The arms of the receiver, one equation per case (43_frame_receiver.md R192 to R200). -/

namespace Sys2Proof.Machine

variable {s t u : State} {c : Tone}

/-! ### RXSTEP (R192) -/

theorem exec_rxstep (v : Bool) (c : Tone) (s : State) : exec (.rxstep v c) s = rxArm v c (shiftIn v c s) := rfl

theorem exec_rxIdle (s : State) : exec .rxIdle s = .next (rxIdle s) := rfl

theorem exec_rxSync (v : Bool) (c : Tone) (s : State) : exec (.rxSync v c) s = .next (rxSync v c s) := rfl

theorem exec_rxPayload (v : Bool) (c : Tone) (s : State) : exec (.rxPayload v c) s = rxPayload v c s := rfl

theorem exec_rxCheck (b : BitVec 80) (s : State) : exec (.rxCheck b) s = rxCheck b s := rfl

theorem exec_rxCooldown (s : State) : exec .rxCooldown s = .next (rxCooldown s) := rfl

theorem exec_emit (d : DataWord) (s : State) : exec (.emit d) s = emit d s := rfl

theorem exec_ledger (deviceId : BitVec 24) (reason ttl : BitVec 8) (s : State) :
    exec (.ledger deviceId reason ttl) s = ledger deviceId reason ttl s := rfl

theorem rxArm_idle (v : Bool) (c : Tone) (h : s.rx.state = .idle) : rxArm v c s = exec .rxIdle s := by
  rw [rxArm, h, exec_rxIdle]

theorem rxArm_sync (v : Bool) (c : Tone) (h : s.rx.state = .sync) : rxArm v c s = exec (.rxSync v c) s := by
  rw [rxArm, h, exec_rxSync]

theorem rxArm_payload (v : Bool) (c : Tone) (h : s.rx.state = .payload) : rxArm v c s = exec (.rxPayload v c) s := by
  rw [rxArm, h, exec_rxPayload]

theorem rxArm_cooldown (v : Bool) (c : Tone) (h : s.rx.state = .cooldown) : rxArm v c s = exec .rxCooldown s := by
  rw [rxArm, h, exec_rxCooldown]

/-- Every place but the newest takes the symbol of the next one. -/
theorem shiftHist_getElem (h : Vector Symbol 20) (x : Symbol) (i : Fin 19) :
    (shiftHist h x)[i.val] = h[i.val + 1] := by
  have hlt : i.val < h.toList.tail.length := by simp
  have hnext : i.val + 1 < h.toList.length := by rw [h.length_toList]; omega
  rw [← Vector.getElem_toList (by simp; omega), ← Vector.getElem_toList hnext]
  simp only [shiftHist_toList, List.getElem_append_left hlt, List.getElem_tail]

theorem shiftHist_newest (h : Vector Symbol 20) (x : Symbol) : (shiftHist h x)[19] = x := by
  rw [← Vector.getElem_toList (by simp)]
  simp [shiftHist_toList]

/-- Settles O25: the history is the shifted one, and the state of the receiver, which the shift keeps, picks the arm. -/
theorem rxstepShiftsThenRunsOneArm : Obligations.RxstepShiftsThenRunsOneArm := by
  unfold Obligations.RxstepShiftsThenRunsOneArm
  intro v c s
  exact ⟨rxStep_completes v c, shiftHist s.rx.hist ⟨v, c⟩, shiftHist_getElem _ _, shiftHist_newest _ _,
    rxArm_idle (s := shiftIn v c s) v c, rxArm_sync (s := shiftIn v c s) v c,
    rxArm_payload (s := shiftIn v c s) v c, rxArm_cooldown (s := shiftIn v c s) v c⟩

/-! ### RX.IDLE (R193) -/

theorem rxIdle_of_lock (h : s.cfg.lockMin ≤ matchScore s) :
    rxIdle s = raise .lock (setRx .sync 0 (setScore (matchScore s) s)) := if_pos h

theorem rxIdle_of_below (h : matchScore s < s.cfg.lockMin) : rxIdle s = setScore (matchScore s) s :=
  if_neg (Nat.not_le.2 h)

/-- The place `i` of a sequence carries the symbol of the preamble: a valid tone `i mod 4` (R193, R194). -/
def matchesAt (i : Nat) (x : Symbol) : Bool := x.valid && x.tone.toNat == i % 4

theorem tone_beq_ofNat_mod (c : Tone) (i : Nat) : (c == BitVec.ofNat 2 (i % 4)) = (c.toNat == i % 4) := by
  have hmod : (BitVec.ofNat 2 (i % 4)).toNat = i % 4 := by rw [BitVec.toNat_ofNat, Nat.mod_mod]
  rw [Bool.eq_iff_iff, beq_iff_eq, beq_iff_eq, ← BitVec.toNat_inj, hmod]

theorem matchCount_cons (i : Nat) (x : Symbol) (xs : List Symbol) :
    matchCount i (x :: xs) = (if matchesAt i x then 1 else 0) + matchCount (i + 1) xs := by
  rw [matchCount, tone_beq_ofNat_mod, matchesAt]

/-- Counting along the list counts the places that match. -/
theorem matchCount_eq_countP (i : Nat) (l : List Symbol) :
    matchCount i l = (List.finRange l.length).countP fun k : Fin l.length => matchesAt (i + k) l[k] := by
  induction l generalizing i with
  | nil => rfl
  | cons x xs ih =>
    have hshift : (fun k : Fin xs.length => matchesAt (i + 1 + k) xs[k]) =
        (fun k : Fin (xs.length + 1) => matchesAt (i + k) (x :: xs)[k]) ∘ Fin.succ := by
      funext k
      rw [Nat.add_assoc, Nat.add_comm 1]
      rfl
    rw [matchCount_cons, ih, hshift, ← List.countP_map, Nat.add_comm]
    exact List.countP_cons.symm.trans (congrArg _ List.finRange_succ.symm)

/-- The score is the number of places of the history that match. -/
theorem matchScore_eq (s : State) : matchScore s =
    ((List.finRange 20).filter fun i : Fin 20 =>
      (s.rx.hist[i.val]).valid && (s.rx.hist[i.val]).tone.toNat == i.val % 4).length := by
  have hcount {n : Nat} (h : Vector Symbol n) :
      matchCount 0 h.toList = (List.finRange n).countP fun i : Fin n => matchesAt i h[i.val] := by
    obtain ⟨⟨l⟩, rfl⟩ := h
    have hlist := matchCount_eq_countP 0 l
    simp only [Nat.zero_add] at hlist
    exact hlist
  rw [matchScore, hcount, List.countP_eq_length_filter]
  rfl

/-- Settles O26: the score counts the places that match, and LOCK_MIN separates the two branches. -/
theorem rxIdleLocksOnScore : Obligations.RxIdleLocksOnScore := by
  unfold Obligations.RxIdleLocksOnScore
  intro s score hscore
  rw [← matchScore_eq] at hscore
  subst hscore
  refine ⟨fun hlock => ?lock, fun hbelow => ?below⟩
  case lock => rw [exec_rxIdle, rxIdle_of_lock hlock]; rfl
  case below => rw [exec_rxIdle, rxIdle_of_below hbelow]; rfl

/-! ### RX.SYNC (R195) -/

theorem syncTone_eq (c : Params) {i : Nat} (hi : i ≤ 7) :
    syncTone c i = toneOf (c.syncWord.extractLsb' (14 - 2 * i) 2) :=
  if_pos (Nat.lt_succ_of_le hi)

theorem rxSync_of_invalid (c : Tone) (s : State) : rxSync false c s = raise .syncAbort (setRx .idle 0 s) := if_pos rfl

theorem rxSync_of_wrong (h : c ≠ syncTone s.cfg s.rx.cnt.toNat) :
    rxSync true c s = raise .syncAbort (setRx .idle 0 s) := by
  rw [rxSync, if_neg (by simp), if_pos h]

theorem rxSync_of_last (h : c = syncTone s.cfg s.rx.cnt.toNat) (hcnt : s.rx.cnt.toNat = 7) :
    rxSync true c s = setBits 0 (setRx .payload 0 s) := by
  rw [rxSync, if_neg (by simp), if_neg (not_not_intro h), if_pos (BitVec.eq_of_toNat_eq hcnt)]
  rfl

theorem rxSync_of_next (h : c = syncTone s.cfg s.rx.cnt.toNat) (hcnt : s.rx.cnt.toNat < 7) :
    rxSync true c s = { s with rx := { s.rx with cnt := s.rx.cnt + 1 } } := by
  have h7 : s.rx.cnt ≠ 7 := fun h7 => absurd hcnt (by rw [h7]; decide)
  rw [rxSync, if_neg (by simp), if_neg (not_not_intro h), if_neg h7]

/-- Settles O27: the invalid symbol, the wrong tone, the eighth right one, an earlier right one. -/
theorem rxSyncComparesOnArrival : Obligations.RxSyncComparesOnArrival := by
  unfold Obligations.RxSyncComparesOnArrival
  intro v c s
  refine ⟨⟨_, exec_rxSync v c s⟩, ?invalid, ?valid⟩
  case invalid =>
    rintro rfl
    rw [exec_rxSync, rxSync_of_invalid]
    rfl
  case valid =>
    rintro rfl hle
    rw [← syncTone_eq s.cfg hle, exec_rxSync]
    refine ⟨fun hwrong => ?_, fun hright => ⟨fun hlast => ?_, fun hnext => ?_⟩⟩
    · rw [rxSync_of_wrong hwrong]; rfl
    · rw [rxSync_of_last hright hlast]; rfl
    · rw [rxSync_of_next hright hnext]

/-! ### RX.PAYLOAD (R197) -/

/-- Taking a dibit in is multiplying by four and adding, modulo 2^80. -/
theorem pushDibit_toNat (bits : BitVec 80) (c : Tone) :
    (pushDibit bits c).toNat = (bits.toNat * 4 + (dibitOf c).toNat) % 2 ^ 80 := by
  have hdisjoint : bits <<< 2 &&& (dibitOf c).zeroExtend 80 = 0#80 := by
    apply BitVec.eq_of_getLsbD_eq
    intro i hi
    by_cases hlow : i < 2
    · simp [hlow]
    · simp [BitVec.getLsbD_of_ge (dibitOf c) i (by omega)]
  have hdibit : ((dibitOf c).zeroExtend 80).toNat = (dibitOf c).toNat := BitVec.toNat_setWidth_of_le (by omega)
  rw [pushDibit, ← BitVec.add_eq_or_of_and_eq_zero _ _ hdisjoint, BitVec.toNat_add, BitVec.toNat_shiftLeft, hdibit,
    Nat.shiftLeft_eq, Nat.mod_add_mod]

theorem rxPayload_of_invalid (c : Tone) (s : State) : rxPayload false c s = .next (raise .torn (setRx .idle 0 s)) :=
  if_pos rfl

theorem rxPayload_of_last (c : Tone) (hcnt : s.rx.cnt.toNat = 39) :
    rxPayload true c s = rxCheck (pushDibit s.rx.bits c) (setBits (pushDibit s.rx.bits c) s) := by
  rw [rxPayload, if_neg (by simp), if_pos (BitVec.eq_of_toNat_eq hcnt)]

theorem rxPayload_of_next (c : Tone) (hcnt : s.rx.cnt.toNat < 39) : rxPayload true c s =
    .next { s with rx := { s.rx with bits := pushDibit s.rx.bits c, cnt := s.rx.cnt + 1 } } := by
  have h39 : s.rx.cnt ≠ 39 := fun h39 => absurd hcnt (by rw [h39]; decide)
  rw [rxPayload, if_neg (by simp), if_neg h39]
  rfl

/-- Settles O28: the invalid symbol, the fortieth valid one, an earlier valid one. -/
theorem rxPayloadCollectsDibits : Obligations.RxPayloadCollectsDibits := by
  unfold Obligations.RxPayloadCollectsDibits
  intro v c s
  refine ⟨rxPayload_completes v c, ?invalid, ?valid⟩
  case invalid =>
    rintro rfl
    rw [exec_rxPayload, rxPayload_of_invalid]
    rfl
  case valid =>
    rintro rfl
    exact ⟨pushDibit s.rx.bits c, pushDibit_toNat _ _, rxPayload_of_last c, rxPayload_of_next c⟩

/-! ### RX.CHECK (R198) -/

theorem rxCheck_of_mismatch {b : BitVec 80} (h : dataCrc (payloadData b) ≠ payloadCrc b) :
    rxCheck b s = .next (raise .crc (setRx .idle 0 s)) := if_neg h

theorem rxCheck_of_match {b : BitVec 80} (h : dataCrc (payloadData b) = payloadCrc b)
    (hemit : emit (payloadData b) s = .next u) : rxCheck b s = .next (enterCooldown u) := by
  rw [rxCheck, if_pos h, hemit, andThen_next]

/-- Settles O29: the comparison of the two CRCs separates EMIT and the cooldown from the silent discard. -/
theorem rxCheckEmitsOnMatch : Obligations.RxCheckEmitsOnMatch := by
  unfold Obligations.RxCheckEmitsOnMatch
  intro b s
  refine ⟨rxCheck_completes b, fun hcrc => rxCheck_of_mismatch hcrc, fun hcrc u hemit hcd => ?emits⟩
  have hcfg : u.cfg = s.cfg := by rw [emit_changes hemit]
  rw [← hcfg] at hcd ⊢
  exact ⟨enterCooldown u, rxCheck_of_match hcrc hemit, enterCooldown_changes u, enterCooldown_rx hcd⟩

/-! ### EMIT (R200) -/

/-- What EMIT hands to LEDGER, waiting record or none. -/
theorem emitRecord_eq (d : DataWord) (s : State) : emitRecord d s =
    { s with
      out := recordOf d
      st := { s.st with overrun := s.st.overrun || s.out.valid }
      events := if s.out.valid then s.events ++ [(s.now, .overrun)] else s.events } := by
  unfold emitRecord
  cases hwaiting : s.out.valid
  case true => simp only [if_true, Bool.or_true]; rfl
  case false => simp only [Bool.false_eq_true, if_false, Bool.or_false]

/-- Settles O30: LEDGER completes on what EMIT has written, and E_FRAME follows. -/
theorem emitDeliversRecord : Obligations.EmitDeliversRecord := by
  unfold Obligations.EmitDeliversRecord
  intro d s hclock
  have hahead : clockAhead 0 (emitRecord d s) := by rw [emitRecord_eq]; exact hclock
  obtain ⟨u, hu⟩ := ledger_completes (dataDeviceId d) (dataReason d) (dataTtl d) hahead
  have hnow : u.now = s.now := by rw [(ledger_eq_next.1 hu).2, emitRecord_changes]
  refine ⟨u, emitRecord_eq d s ▸ hu, ?_⟩
  rw [exec_emit, emit_eq_next.2 ⟨u, hu, rfl⟩, raise, hnow]

end Sys2Proof.Machine
end

section
/-! PROOFS. The cooldown of the receiver, symbol by symbol (43_frame_receiver.md R199). -/

namespace Sys2Proof.Machine

variable {s t : State}

theorem rxCooldown_of_last (h : s.rx.cnt.toNat ≤ 1) : rxCooldown s = setRx .idle 0 s := if_pos h

theorem rxCooldown_of_more (h : 1 < s.rx.cnt.toNat) :
    rxCooldown s = { s with rx := { s.rx with cnt := s.rx.cnt - 1 } } := if_neg (Nat.not_le.2 h)

/-- One symbol in COOLDOWN takes one off the count, and the last of the count ends it. -/
theorem rxCooldown_counts (hpos : 1 ≤ s.rx.cnt.toNat) :
    (rxCooldown s).rx.cnt.toNat + 1 = s.rx.cnt.toNat ∧
    (rxCooldown s).rx.state = if s.rx.cnt.toNat = 1 then .idle else s.rx.state := by
  obtain hone | hmore := hpos.eq_or_lt
  · rw [rxCooldown_of_last hone.ge, if_pos hone.symm]
    exact ⟨hone, rfl⟩
  · have hprev : (s.rx.cnt - 1).toNat = s.rx.cnt.toNat - 1 := BitVec.toNat_sub_of_le (by bv_omega)
    rw [rxCooldown_of_more hmore, if_neg hmore.ne']
    exact ⟨by dsimp only; omega, rfl⟩

/-- From `s` to `t` the receiver sat out the symbols `syms` in COOLDOWN: only the history, the count and at its end the
state moved. -/
structure CooledOver (syms : List (Bool × Tone)) (s t : State) : Prop where
  frame : t = { s with rx := t.rx }
  score : t.rx.score = s.rx.score
  bits : t.rx.bits = s.rx.bits
  hist : t.rx.hist.toList = (s.rx.hist.toList ++ syms.map fun x => (⟨x.1, x.2⟩ : Symbol)).drop syms.length
  cnt : t.rx.cnt.toNat + syms.length = s.rx.cnt.toNat
  state : t.rx.state = if syms.length = s.rx.cnt.toNat then .idle else .cooldown

theorem CooledOver.nil (hstate : s.rx.state = .cooldown) (hpos : 1 ≤ s.rx.cnt.toNat) : CooledOver [] s s where
  frame := rfl
  score := rfl
  bits := rfl
  hist := (List.append_nil _).symm
  cnt := rfl
  state := hstate.trans (if_neg (Nat.ne_of_lt hpos)).symm

theorem CooledOver.snoc {syms : List (Bool × Tone)} (x : Bool × Tone) (h : CooledOver syms s t)
    (hlen : syms.length < s.rx.cnt.toNat) : CooledOver (syms ++ [x]) s (rxCooldown (shiftIn x.1 x.2 t)) := by
  obtain ⟨hframe, hscore, hbits, hhist, hcnt, hstate⟩ := h
  have hpos : 1 ≤ t.rx.cnt.toNat := by omega
  obtain ⟨hcnt', hstate'⟩ := rxCooldown_counts (s := shiftIn x.1 x.2 t) hpos
  rw [shiftIn_rx_cnt] at hcnt' hstate'
  rw [shiftIn_rx_state, hstate, if_neg hlen.ne] at hstate'
  have hchanges := rxCooldown_changes (shiftIn x.1 x.2 t)
  have hcount : (syms ++ [x]).length = syms.length + 1 := by simp
  refine ⟨?frame, ?score, ?bits, ?hist, by omega, ?state⟩
  case frame => rw [hchanges, hframe]; rfl
  case score => rw [hchanges]; exact hscore
  case bits => rw [hchanges]; exact hbits
  case hist =>
    have hshift : (rxCooldown (shiftIn x.1 x.2 t)).rx.hist.toList = t.rx.hist.toList.tail ++ [⟨x.1, x.2⟩] := by
      rw [hchanges]; exact shiftHist_toList _ _
    rw [hshift, hhist, List.tail_drop, hcount, List.map_append, ← List.append_assoc]
    exact (List.drop_append_of_le_length (by simp)).symm
  case state =>
    rw [hstate', hcount]
    exact if_congr (by omega) rfl rfl

/-- A run of symbols no longer than the count is sat out in COOLDOWN. -/
theorem runAll_cooldown (hstate : s.rx.state = .cooldown) (hpos : 1 ≤ s.rx.cnt.toNat) (syms : List (Bool × Tone))
    (hlen : syms.length ≤ s.rx.cnt.toNat) :
    ∃ t, runAll (syms.map fun x => .rxstep x.1 x.2) s = .next t ∧ CooledOver syms s t := by
  induction syms using List.reverseRecOn with
  | nil => exact ⟨s, rfl, .nil hstate hpos⟩
  | append_singleton syms x ih =>
    rw [List.length_append, List.length_singleton] at hlen
    obtain ⟨t, ht, hcooled⟩ := ih (by omega)
    have hstill : t.rx.state = .cooldown := hcooled.state.trans (if_neg (by omega))
    refine ⟨_, ?run, hcooled.snoc x (by omega)⟩
    rw [List.map_append, runAll_append, ht, andThen_next, List.map_singleton, runAll_cons, exec_rxstep,
      rxArm_cooldown (s := shiftIn x.1 x.2 t) x.1 x.2 hstill, exec_rxCooldown, andThen_next, runAll_nil]

/-- Settles O33: one symbol by the two cases of RX.COOLDOWN, a run of them by induction on its last symbol. -/
theorem rxCooldownLastsItsTicks : Obligations.RxCooldownLastsItsTicks := by
  unfold Obligations.RxCooldownLastsItsTicks
  intro s
  refine ⟨fun hlast => ?last, fun hmore => ?more, fun syms hstate hpos hlen => ?run⟩
  case last => rw [exec_rxCooldown, rxCooldown_of_last hlast]; rfl
  case more => rw [exec_rxCooldown, rxCooldown_of_more hmore]
  case run =>
    obtain ⟨t, ht, hframe, hscore, hbits, hhist, hcnt, hstate'⟩ := runAll_cooldown hstate hpos syms hlen
    exact ⟨t, ht, hframe, hscore, hbits, hhist, hcnt, hstate'⟩

end Sys2Proof.Machine
end

section
/-! PROOFS. A whole transmission heard after a quiet channel (43_frame_receiver.md R203, R205). -/

namespace Sys2Proof.Machine

variable {s t u v : State} {c : Tone}

/-! ### The symbols of a transmission -/

/-- The tone of preamble symbol `i` (30_encoding.md R105). -/
def preambleTone (i : Nat) : Tone := BitVec.ofNat 2 (i % 4)

/-- The symbols of a transmission are the preamble and the frame (30_encoding.md R106). -/
theorem transmitted_symbols (f : FrameBits) :
    (List.range 68).map (txSym f) = (List.range 20).map preambleTone ++ frameSymbols f := by
  rw [show 68 = 20 + 48 from rfl, List.range_add, List.map_append, List.map_map, frameSymbols]
  refine congrArg₂ (· ++ ·) ?_ ?_
  · refine List.map_congr_left fun i hi => ?_
    exact if_pos (List.mem_range.1 hi)
  · refine List.map_congr_left fun i _ => ?_
    rw [Function.comp_apply, txSym, if_neg (by omega), Nat.add_sub_cancel_left]

theorem runAll_transmission (c : Params) (d : DataWord) (s : State) :
    runAll (transmission c d) s =
      symbolTicks ((List.range 20).map preambleTone ++ frameSymbols (encodeData c d)) [] s := by
  rw [← transmitted_symbols, symbolTicks_eq_runAll]
  rfl

theorem symbolTicks_append (xs ys : List Tone) (rnds : List Word) (s : State) :
    symbolTicks (xs ++ ys) rnds s =
      andThen (symbolTicks xs rnds s) fun t => symbolTicks ys (rnds.drop xs.length) t := by
  induction xs generalizing rnds s with
  | nil => rfl
  | cons x xs ih =>
    simp only [List.cons_append, symbolTicks, andThen_assoc, ih, List.length_cons, List.drop_tail]

theorem encodeData_eq_append (c : Params) (d : DataWord) : encodeData c d = c.syncWord ++ (d ++ dataCrc d) :=
  BitVec.append_assoc (x₁ := c.syncWord) (x₂ := d) (x₃ := dataCrc d)

/-! ### The score of a preamble on its way in -/

theorem matchCount_append (i : Nat) (xs ys : List Symbol) :
    matchCount i (xs ++ ys) = matchCount i xs + matchCount (i + xs.length) ys := by
  induction xs generalizing i with
  | nil => simp [matchCount]
  | cons x xs ih =>
    rw [List.cons_append, matchCount_cons, matchCount_cons, ih, List.length_cons, Nat.add_assoc, Nat.add_assoc,
      Nat.add_comm 1]

/-- Invalid symbols score as non-matches (R193). -/
theorem matchCount_of_invalid (i : Nat) {xs : List Symbol} (h : ∀ x ∈ xs, x.valid = false) : matchCount i xs = 0 := by
  induction xs generalizing i with
  | nil => rfl
  | cons x xs ih =>
    obtain ⟨hx, hxs⟩ := List.forall_mem_cons.1 h
    simp [matchCount_cons, matchesAt, hx, ih (i + 1) hxs]

/-- `n` symbols of the preamble from symbol `a` on, all valid. -/
def preambleFrom (a n : Nat) : List Symbol := (List.range' a n).map fun i => ⟨true, preambleTone i⟩

/-- Preamble symbols score all together where their phase is the expected one, and not at all elsewhere (R194). -/
theorem matchCount_preambleFrom (i a n : Nat) :
    matchCount i (preambleFrom a n) = if a % 4 = i % 4 then n else 0 := by
  induction n generalizing i a with
  | zero => simp [preambleFrom, matchCount]
  | succ n ih =>
    have hhead : matchesAt i ⟨true, preambleTone a⟩ = decide (a % 4 = i % 4) := by
      simp [matchesAt, preambleTone, beq_eq_decide]
    have hphase : (a + 1) % 4 = (i + 1) % 4 ↔ a % 4 = i % 4 := by omega
    rw [preambleFrom, List.range'_succ, List.map_cons, matchCount_cons, ← preambleFrom, ih, hhead,
      if_congr hphase rfl rfl]
    split <;> simp_all [Nat.add_comm]

/-- The history after the first `j` symbols of a preamble on a quiet channel (R203). -/
def HeardPreamble (j : Nat) (h : Vector Symbol 20) : Prop :=
  ∃ old : List Symbol, old.length + j = 20 ∧ (∀ x ∈ old, x.valid = false) ∧ h.toList = old ++ preambleFrom 0 j

theorem HeardPreamble.of_quiet {h : Vector Symbol 20} (hquiet : ∀ x ∈ h.toList, x.valid = false) :
    HeardPreamble 0 h :=
  ⟨h.toList, h.length_toList, hquiet, (List.append_nil _).symm⟩

theorem HeardPreamble.shift {j : Nat} {h : Vector Symbol 20} (hh : HeardPreamble j h) (hj : j < 20) :
    HeardPreamble (j + 1) (shiftHist h ⟨true, preambleTone j⟩) := by
  obtain ⟨_ | ⟨x, old⟩, hlen, hold, hlist⟩ := hh
  · rw [List.length_nil] at hlen; omega
  · rw [List.length_cons] at hlen
    refine ⟨old, by omega, (List.forall_mem_cons.1 hold).2, ?_⟩
    simp [shiftHist_toList, hlist, preambleFrom, List.range'_concat]

/-- The score is the number of symbols heard at every fourth of them, and 0 between (R203). -/
theorem HeardPreamble.score {j : Nat} (h : HeardPreamble j s.rx.hist) :
    matchScore s = if j % 4 = 0 then j else 0 := by
  obtain ⟨old, hlen, hold, hlist⟩ := h
  rw [matchScore, hlist, matchCount_append, matchCount_of_invalid 0 hold, matchCount_preambleFrom, Nat.zero_add]
  exact if_congr (by omega) rfl rfl

/-! ### The receiver during the preamble -/

/-- The first sync symbol is not tone 0 (00_scope.md R11 (c)). -/
theorem syncTone_zero_ne {c : Params} (h : configOk c = true) : syncTone c 0 ≠ 0 := by
  have hsync : c.syncWord.extractLsb' 14 2 ≠ 0#2 := by
    simp only [configOk, receiverOk, Bool.and_eq_true, decide_eq_true_eq] at h
    tauto
  intro hzero
  rw [syncTone_eq c (Nat.zero_le 7)] at hzero
  exact hsync ((dibitOf_toneOf _).symm.trans (congrArg dibitOf hzero))

/-- Where the receiver stands after `j` symbols of a preamble begun in `s`: just locked, which only a multiple of four
allows, or in IDLE, and then below LOCK_MIN there (R203). -/
structure PreambleReception (s : State) (j : Nat) (u : State) : Prop where
  hear : Listening s j u
  hist : HeardPreamble j u.rx.hist
  arm : (u.rx.state = .sync ∧ u.rx.cnt = 0 ∧ j % 4 = 0) ∨ (u.rx.state = .idle ∧ (j % 4 = 0 → j < s.cfg.lockMin))

theorem PreambleReception.start (hc : configOk s.cfg = true) (hstate : s.rx.state = .idle)
    (hhist : ∀ x ∈ s.rx.hist.toList, x.valid = false) (hq : transmitQuiet s) : PreambleReception s 0 s :=
  have ⟨hlock, _⟩ := receiver_bounds hc
  ⟨⟨rfl, rfl, rfl, hq⟩, .of_quiet hhist, .inr ⟨hstate, fun _ => hlock⟩⟩

/-- After a multiple of four preamble symbols the next is tone 0, which aborts the lock. -/
theorem PreambleReception.of_abort {j : Nat} (hc : configOk s.cfg = true) (hear : Listening s (j + 1) u)
    (hhist : HeardPreamble (j + 1) u.rx.hist) (hstate : u.rx.state = .sync) (hcnt : u.rx.cnt = 0) (hfourth : j % 4 = 0)
    (h : rxArm true (preambleTone j) u = .next v) : PreambleReception s (j + 1) (silent v) := by
  obtain ⟨hnow, hcfg, hled, hquiet⟩ := hear
  have htone : preambleTone j = 0 := congrArg (BitVec.ofNat 2) hfourth
  have hwrong : preambleTone j ≠ syncTone u.cfg u.rx.cnt.toNat := by
    rw [hcfg, hcnt, htone]
    exact (syncTone_zero_ne hc).symm
  rw [rxArm_sync true _ hstate, exec_rxSync, rxSync_of_wrong hwrong] at h
  obtain rfl := Host.Outcome.next.inj h
  exact ⟨⟨hnow, hcfg, hled, hquiet⟩, hhist, .inr ⟨rfl, by omega⟩⟩

/-- In IDLE the history is scored, and the score reaches LOCK_MIN at a multiple of four only. -/
theorem PreambleReception.of_score {j : Nat} (hc : configOk s.cfg = true) (hear : Listening s j u)
    (hhist : HeardPreamble j u.rx.hist) (hstate : u.rx.state = .idle) (h : rxArm true c u = .next v) :
    PreambleReception s j (silent v) := by
  obtain ⟨hnow, hcfg, hled, hquiet⟩ := hear
  obtain ⟨hlock, -⟩ := receiver_bounds hc
  have hscore := hhist.score
  rw [rxArm_idle true _ hstate, exec_rxIdle] at h
  obtain hreach | hbelow := le_or_gt u.cfg.lockMin (matchScore u)
  · rw [rxIdle_of_lock hreach] at h
    obtain rfl := Host.Outcome.next.inj h
    have hfourth : j % 4 = 0 := by
      by_contra hno
      rw [hscore, if_neg hno, hcfg] at hreach
      omega
    exact ⟨⟨hnow, hcfg, hled, hquiet⟩, hhist, .inl ⟨rfl, rfl, hfourth⟩⟩
  · rw [rxIdle_of_below hbelow] at h
    obtain rfl := Host.Outcome.next.inj h
    refine ⟨⟨hnow, hcfg, hled, hquiet⟩, hhist, .inr ⟨hstate, fun hfourth => ?_⟩⟩
    rwa [hscore, if_pos hfourth, hcfg] at hbelow

/-- Every symbol of the preamble takes the reception one place on. -/
theorem PreambleReception.symbol {j : Nat} {rnd : Word} (hc : configOk s.cfg = true) (hj : j < 20)
    (hr : PreambleReception s j u) (h : symbolTick (preambleTone j) rnd u = .next v) :
    PreambleReception s (j + 1) v := by
  obtain ⟨hear, hhist, harm⟩ := hr
  obtain ⟨w, hw, rfl⟩ := symbolTick_quiet hear.quiet h
  have hear' := hear.hearing (preambleTone j)
  have hhist' : HeardPreamble (j + 1) (hearing (preambleTone j) u).rx.hist := hhist.shift hj
  obtain ⟨hstate, hcnt, hfourth⟩ | ⟨hstate, -⟩ := harm
  · exact .of_abort hc hear' hhist' hstate hcnt hfourth hw
  · exact .of_score hc hear' hhist' hstate hw

/-- The preamble ends in the lock: its twenty symbols score 20, which LOCK_MIN does not exceed. -/
theorem PreambleReception.locked (hc : configOk s.cfg = true) (hr : PreambleReception s 20 u) :
    u.rx.state = .sync ∧ u.rx.cnt = 0 := by
  obtain ⟨-, hmax, -⟩ := receiver_bounds hc
  obtain ⟨hstate, hcnt, -⟩ | ⟨-, hbelow⟩ := hr.arm
  · exact ⟨hstate, hcnt⟩
  · exact absurd (hbelow rfl) (Nat.not_lt.2 hmax)

theorem PreambleReception.of_symbolTicks {rnds : List Word} (hc : configOk s.cfg = true)
    (hstart : PreambleReception s 0 s) (h : symbolTicks ((List.range 20).map preambleTone) rnds s = .next t) :
    PreambleReception s 20 t := by
  have hlen : ((List.range 20).map preambleTone).length = 20 := by simp
  refine hlen ▸ symbolTicks_induct hstart (fun j hj rnd u v hr hu => ?_) h
  exact hr.symbol hc (hlen ▸ hj) (by simpa using hu)

/-- Settles O38: the preamble ends in the lock, whatever LOCK_MIN is, and the frame heard from the lock on passes
RX.CHECK with the data word that was encoded. -/
theorem transmissionRoundTrip : Obligations.TransmissionRoundTrip := by
  unfold Obligations.TransmissionRoundTrip
  intro d s hc hstate hhist hq hclock
  obtain ⟨-, -, -, -, hcd⟩ := receiver_bounds hc
  have hlen : ((List.range 20).map preambleTone ++ frameSymbols (encodeData s.cfg d)).length = 68 := by
    simp [frameSymbols_length]
  obtain ⟨t, ht, -⟩ := symbolTicks_complete _ [] (hlen.symm ▸ hclock)
  refine ⟨t, (runAll_transmission s.cfg d s).trans ht, ?_⟩
  rw [symbolTicks_append] at ht
  obtain ⟨u, hu, ht⟩ := andThen_eq_next.1 ht
  have hpre := PreambleReception.of_symbolTicks hc (.start hc hstate hhist hq) hu
  obtain ⟨hsync, hcnt⟩ := hpre.locked hc
  rw [encodeData_eq_append, ← hpre.hear.cfg] at ht
  obtain ⟨w, v, hear, hcheck, rfl⟩ := Reception.of_symbolTicks hsync hcnt hpre.hear.quiet ht
  have hdata : payloadData (d ++ dataCrc d) = d := BitVec.extractLsb'_append_eq_left
  have hcrc : payloadCrc (d ++ dataCrc d) = dataCrc d := BitVec.extractLsb'_append_eq_right
  have hcfg : w.cfg = s.cfg := hear.cfg.trans hpre.hear.cfg
  obtain ⟨hout, hled, hcnt', hstate'⟩ := rxCheck_delivers (by rw [hdata, hcrc]) (hcfg ▸ hcd) hcheck
  rw [hdata] at hout hled
  rw [hear.now, hpre.hear.now] at hled
  rw [hcfg] at hcnt' hstate'
  exact ⟨hout, congrArg Ledger.lastInhibitor hled, congrArg Ledger.lastSeen hled, hcnt', hstate'⟩

end Sys2Proof.Machine
end

section
/-! PROOFS. The CRC as the remainder modulo its generator: linear in the bits, shifted one place at a time
(44_crc16.md R221, R224). -/

namespace Sys2Proof.Machine

/-! ### One place further: multiplication by `x` modulo the generator -/

/-- The repeated line of R221: one place to the left, reduced by 0x1021. -/
def crcShift (c : BitVec 16) : BitVec 16 := if c.msb then (c <<< 1) ^^^ 0x1021#16 else c <<< 1

theorem crcShift_of_msb {c : BitVec 16} (h : c.msb = true) : crcShift c = (c <<< 1) ^^^ 0x1021#16 := if_pos h

theorem crcShift_of_not_msb {c : BitVec 16} (h : c.msb = false) : crcShift c = c <<< 1 := if_neg (by simp [h])

/-- A word may be fed bit by bit or added as a whole: its top bit enters now, the rest stays added one place on. -/
theorem crcShift_xor (c w : BitVec 16) : crcShift (c ^^^ w) = crcBit c w.msb ^^^ w <<< 1 := by
  rw [crcShift, crcBit, BitVec.msb_xor, BitVec.shiftLeft_xor_distrib, Bool.xor_comm]
  split
  · ac_rfl
  · rfl

@[simp] theorem crcBit_false (c : BitVec 16) : crcBit c false = crcShift c := by
  simpa using (crcShift_xor c 0#16).symm

@[simp] theorem crcShift_zero : crcShift 0#16 = 0#16 := by decide

theorem crcShift_iterate_zero (n : Nat) : crcShift^[n] 0#16 = 0#16 := Function.iterate_fixed crcShift_zero n

/-- What the feedback bit of R220 adds. -/
def crcFeedback (fb : Bool) : BitVec 16 := if fb then 0x1021#16 else 0#16

theorem crcFeedback_xor : ∀ x y : Bool, crcFeedback (x ^^ y) = crcFeedback x ^^^ crcFeedback y := by decide

theorem crcBit_eq_xor (c : BitVec 16) (x : Bool) : crcBit c x = c <<< 1 ^^^ crcFeedback (x ^^ c.msb) := by
  rw [crcBit, crcFeedback, apply_ite (c <<< 1 ^^^ ·), BitVec.xor_zero]

theorem crcBit_xor (c d : BitVec 16) (x y : Bool) : crcBit (c ^^^ d) (x ^^ y) = crcBit c x ^^^ crcBit d y := by
  simp only [crcBit_eq_xor, crcFeedback_xor, BitVec.msb_xor, BitVec.shiftLeft_xor_distrib]
  ac_rfl

/-- The generator is odd, so no set bit is lost by a shift. -/
theorem crcShift_eq_zero {c : BitVec 16} (h : crcShift c = 0#16) : c = 0#16 := by
  have hmsb : c.msb = false := by
    by_contra hset
    rw [Bool.not_eq_false] at hset
    rw [crcShift_of_msb hset] at h
    simpa using congrArg (BitVec.getLsbD · 0) h
  have hshift := congrArg BitVec.toNat (crcShift_of_not_msb hmsb ▸ h)
  have hlt := BitVec.toNat_lt_of_msb_false hmsb
  rw [BitVec.toNat_shiftLeft, Nat.shiftLeft_eq] at hshift
  bv_omega

theorem crcShift_injective : Function.Injective crcShift := by
  intro c d h
  have hxor : crcShift (c ^^^ d) = crcShift c ^^^ crcShift d := by simpa using crcBit_xor c d false false
  exact BitVec.xor_eq_zero_iff.1 (crcShift_eq_zero (by rw [hxor, h, BitVec.xor_self]))

/-! ### The bits of a word through the generator -/

/-- The bits of a word, most significant first: the order of R220 and of the wire. -/
def bitsMsbFirst {n : Nat} (v : BitVec n) : List Bool := (List.range n).map v.getMsbD

theorem byteBits_eq (b : Byte) : byteBits b = bitsMsbFirst b := by
  simp [byteBits, bitsMsbFirst, List.range_succ, BitVec.getMsbD]

theorem bitsMsbFirst_append {m n : Nat} (v : BitVec m) (w : BitVec n) :
    bitsMsbFirst (v ++ w) = bitsMsbFirst v ++ bitsMsbFirst w := by
  rw [bitsMsbFirst, List.range_add, List.map_append, List.map_map]
  refine congrArg₂ (· ++ ·) (List.map_congr_left fun k hk => ?_) (List.map_congr_left fun k _ => ?_)
  · rw [BitVec.getMsbD_append, if_neg (Nat.not_le.2 (List.mem_range.1 hk))]
  · rw [Function.comp_apply, BitVec.getMsbD_append, if_pos (Nat.le_add_right m k), Nat.add_sub_cancel_left]

/-- The bits of a word fed to the generator (R220). -/
def crcFeed (c : BitVec 16) {n : Nat} (v : BitVec n) : BitVec 16 := (bitsMsbFirst v).foldl crcBit c

theorem crcByte_eq_crcFeed (c : BitVec 16) (b : Byte) : crcByte c b = crcFeed c b := by
  rw [crcByte, crcFeed, byteBits_eq]

theorem crcFeed_append (c : BitVec 16) {m n : Nat} (v : BitVec m) (w : BitVec n) :
    crcFeed c (v ++ w) = crcFeed (crcFeed c v) w := by
  rw [crcFeed, bitsMsbFirst_append, List.foldl_append, crcFeed, crcFeed]

theorem crcFeed_xor (c d : BitVec 16) {n : Nat} (v w : BitVec n) :
    crcFeed (c ^^^ d) (v ^^^ w) = crcFeed c v ^^^ crcFeed d w := by
  simp only [crcFeed, bitsMsbFirst, List.foldl_map, BitVec.getMsbD_xor]
  generalize List.range n = places
  induction places generalizing c d with
  | nil => rfl
  | cons k places ih => rw [List.foldl_cons, crcBit_xor, ih, List.foldl_cons, List.foldl_cons]

/-- Feeding the first `k` bits of a word is `k` shifts with the word added as a whole before. -/
theorem crcShift_iterate_xor (c w : BitVec 16) (k : Nat) :
    crcShift^[k] (c ^^^ w) = ((List.range k).map w.getMsbD).foldl crcBit c ^^^ w <<< k := by
  induction k with
  | zero => simp
  | succ k ih =>
    rw [Function.iterate_succ_apply', ih, crcShift_xor, BitVec.msb_shiftLeft, BitVec.shiftLeft_add,
      List.range_succ, List.map_append, List.foldl_append]
    rfl

/-- A byte added at the top and shifted through, as R221 has it. -/
theorem crcByte_eq_iterate (c : BitVec 16) (b : Byte) :
    crcByte c b = crcShift^[8] (c ^^^ (b.zeroExtend 16 <<< 8)) := by
  have hbits : (List.range 8).map (b.zeroExtend 16 <<< 8).getMsbD = bitsMsbFirst b := by
    simp [bitsMsbFirst, List.range_succ]
  have hnone : (b.zeroExtend 16 <<< 8) <<< 8 = 0#16 := by
    rw [← BitVec.shiftLeft_add, BitVec.shiftLeft_eq_zero (le_refl 16)]
  rw [crcShift_iterate_xor, hbits, hnone, BitVec.xor_zero, crcByte_eq_crcFeed, crcFeed]

theorem crcFeed_eq_iterate (c r : BitVec 16) : crcFeed c r = crcShift^[16] (c ^^^ r) := by
  rw [crcShift_iterate_xor, BitVec.shiftLeft_eq_zero (le_refl 16), BitVec.xor_zero, crcFeed, bitsMsbFirst]

/-- The sixteen bits of a CRC bring the generator to 0 where they are what it holds, and only there. -/
theorem crcFeed_eq_zero_iff (c r : BitVec 16) : crcFeed c r = 0#16 ↔ c = r := by
  rw [crcFeed_eq_iterate, ← crcShift_iterate_zero 16, (crcShift_injective.iterate 16).eq_iff, BitVec.xor_eq_zero_iff]

/-! ### The byte-wise form and the residue (R221, R224 (a)) -/

theorem exec_crc16 (bytes : List Byte) (s : State) :
    exec (.crc16 bytes) s = .next { s with ret := (crc16 bytes).toNat } := rfl

theorem crc16_eq_byteWise (bytes : List Byte) : crc16 bytes =
    bytes.foldl (fun (c : BitVec 16) (b : Byte) => crcShift^[8] (c ^^^ (b.zeroExtend 16 <<< 8))) 0xFFFF#16 :=
  List.foldl_ext _ _ _ fun c b _ => crcByte_eq_iterate c b

/-- The bytes followed by a word of two bytes, its high byte first. -/
theorem crc16_append_word (bytes : List Byte) (r : BitVec 16) :
    crc16 (bytes ++ [r.extractLsb' 8 8, r.extractLsb' 0 8]) = crcFeed (crc16 bytes) r := by
  have hr : r.extractLsb' 8 8 ++ r.extractLsb' 0 8 = r := BitVec.extractLsb'_append_extractLsb'
  rw [crc16, List.foldl_append, List.foldl_cons, List.foldl_cons, List.foldl_nil, crcByte_eq_crcFeed,
    crcByte_eq_crcFeed, ← crcFeed_append, hr, crc16]

theorem crc16_append_crc (bytes : List Byte) :
    crc16 (bytes ++ [(crc16 bytes).extractLsb' 8 8, (crc16 bytes).extractLsb' 0 8]) = 0#16 := by
  rw [crc16_append_word, crcFeed_eq_zero_iff]

/-- Settles O34: each byte may be added at the top before its eight shifts, and a CRC fed after its bytes leaves 0. -/
theorem crcByteWiseFormAndResidue : Obligations.CrcByteWiseFormAndResidue := by
  unfold Obligations.CrcByteWiseFormAndResidue
  intro bytes s
  refine ⟨?byteWise, ?residue⟩
  case byteWise =>
    rw [exec_crc16, crc16_eq_byteWise]
    rfl
  case residue =>
    rw [exec_crc16, crc16_append_crc]
    rfl

/-! ### Flipped bits of a payload (R224 (b), (c)) -/

theorem dataCrc_eq_crcFeed (d : DataWord) : dataCrc d = crcFeed 0xFFFF#16 d := by
  have hbits : (dataBytes d).flatMap byteBits = bitsMsbFirst d := by
    simp [dataBytes, byteBits, bitsMsbFirst, List.range_succ, BitVec.getMsbD]
  rw [crcFeed, ← hbits, List.foldl_flatMap]
  rfl

/-- A payload's CRC matches where its eighty bits bring the generator to 0. -/
theorem dataCrc_eq_payloadCrc_iff (b : BitVec 80) :
    dataCrc (payloadData b) = payloadCrc b ↔ crcFeed 0xFFFF#16 b = 0#16 := by
  have hb : payloadData b ++ payloadCrc b = b := BitVec.extractLsb'_append_extractLsb'
  rw [dataCrc_eq_crcFeed, ← crcFeed_eq_zero_iff, ← crcFeed_append, hb]

/-- A flipped pattern of an accepted payload is accepted only where the pattern alone leaves 0. -/
theorem dataCrc_xor_ne {b e : BitVec 80} (hb : dataCrc (payloadData b) = payloadCrc b) (he : crcFeed 0#16 e ≠ 0#16) :
    dataCrc (payloadData (b ^^^ e)) ≠ payloadCrc (b ^^^ e) := by
  rw [dataCrc_eq_payloadCrc_iff] at hb
  have hxor : crcFeed 0xFFFF#16 (b ^^^ e) = crcFeed 0#16 e := by
    simpa [hb] using crcFeed_xor 0xFFFF#16 0#16 b e
  rwa [Ne, dataCrc_eq_payloadCrc_iff, hxor]

theorem bitsMsbFirst_twoPow (m i : Nat) :
    bitsMsbFirst (BitVec.twoPow (m + (1 + i)) i) = List.replicate m false ++ true :: List.replicate i false := by
  have hbit (k : Nat) : (BitVec.twoPow (m + (1 + i)) i).getMsbD k = decide (k = m) := by
    rw [BitVec.getMsbD_twoPow, decide_eq_true (by omega), Bool.true_and, show m + (1 + i) - i - 1 = m by omega]
  rw [bitsMsbFirst, funext hbit, List.range_add, List.range_add, List.map_append, List.map_append, List.map_append]
  refine congrArg₂ (· ++ ·) ?before (congrArg₂ List.cons ?set ?after)
  case before =>
    have hunset : ∀ k ∈ List.range m, decide (k = m) = false := fun k hk => by simpa using (List.mem_range.1 hk).ne
    rw [List.map_congr_left hunset, List.map_const', List.length_range]
  case set => simp
  case after => simp [Function.comp_def]

theorem foldl_crcBit_zeros (c : BitVec 16) (k : Nat) : (List.replicate k false).foldl crcBit c = crcShift^[k] c := by
  induction k generalizing c with
  | zero => rfl
  | succ k ih => rw [List.replicate_succ, List.foldl_cons, crcBit_false, ih, Function.iterate_succ_apply]

/-- One set bit leaves the generator shifted by its place. -/
theorem crcFeed_twoPow {n i : Nat} (hi : i < n) : crcFeed 0#16 (BitVec.twoPow n i) = crcShift^[i] 0x1021#16 := by
  obtain ⟨m, rfl⟩ : ∃ m, n = m + (1 + i) := ⟨n - (1 + i), by omega⟩
  have hone : crcBit 0#16 true = 0x1021#16 := by decide
  rw [crcFeed, bitsMsbFirst_twoPow, List.foldl_append, foldl_crcBit_zeros, crcShift_iterate_zero, List.foldl_cons, hone,
    foldl_crcBit_zeros]

/-- Within eighty places the shifted generator does not come back to itself. -/
theorem crcShift_iterate_generator_ne {k : Nat} (hk : k < 80) (hpos : 0 < k) :
    crcShift^[k] 0x1021#16 ≠ 0x1021#16 := by
  revert k
  decide

theorem crcFeed_twoPow_ne {i : Nat} (hi : i < 80) : crcFeed 0#16 (BitVec.twoPow 80 i) ≠ 0#16 := by
  rw [crcFeed_twoPow hi, ← crcShift_iterate_zero i, (crcShift_injective.iterate i).ne_iff]
  decide

theorem twoPow_or_twoPow {n i j : Nat} (h : i ≠ j) :
    BitVec.twoPow n i ||| BitVec.twoPow n j = BitVec.twoPow n i ^^^ BitVec.twoPow n j := by
  apply BitVec.eq_of_getLsbD_eq
  intro k _
  have hone : ¬(i = k ∧ j = k) := by omega
  simp only [BitVec.getLsbD_or, BitVec.getLsbD_xor, BitVec.getLsbD_twoPow]
  grind

/-- Two set bits leave the generator at two different shifts. -/
theorem crcFeed_twoPow_xor_ne {i j : Nat} (hij : i < j) (hj : j < 80) :
    crcFeed 0#16 (BitVec.twoPow 80 i ^^^ BitVec.twoPow 80 j) ≠ 0#16 := by
  have hxor := crcFeed_xor 0#16 0#16 (BitVec.twoPow 80 i) (BitVec.twoPow 80 j)
  rw [BitVec.xor_self] at hxor
  rw [hxor, Ne, BitVec.xor_eq_zero_iff, crcFeed_twoPow (hij.trans hj), crcFeed_twoPow hj,
    ← Nat.add_sub_of_le hij.le, Function.iterate_add_apply, (crcShift_injective.iterate i).eq_iff]
  exact (crcShift_iterate_generator_ne (k := j - i) (by omega) (by omega)).symm

theorem crcFeed_twoPow_or_ne {i j : Nat} (hi : i < 80) (hj : j < 80) (hij : i ≠ j) :
    crcFeed 0#16 (BitVec.twoPow 80 i ||| BitVec.twoPow 80 j) ≠ 0#16 := by
  rw [twoPow_or_twoPow hij]
  obtain hlt | hgt := hij.lt_or_gt
  · exact crcFeed_twoPow_xor_ne hlt hj
  · rw [BitVec.xor_comm]
    exact crcFeed_twoPow_xor_ne hgt hi

/-- Settles O35: the generator is linear in the bits, and no pattern of one or two bits leaves it at 0. -/
theorem crcCatchesOneAndTwoBitErrors : Obligations.CrcCatchesOneAndTwoBitErrors := by
  unfold Obligations.CrcCatchesOneAndTwoBitErrors
  intro b i j s hi hj hcrc e he
  have hpattern : crcFeed 0#16 e ≠ 0#16 := by
    obtain rfl | ⟨hij, rfl⟩ := he
    · exact crcFeed_twoPow_ne hi
    · exact crcFeed_twoPow_or_ne hi hj hij
  exact rxCheck_of_mismatch (dataCrc_xor_ne hcrc hpattern)

end Sys2Proof.Machine
end

section
/-! PROOFS. The merge of LEDGER, and the inhibition its deadlines make (45_inhibition_ledger.md R231, R232, R236). -/

namespace Sys2Proof.Machine

variable {s t : State} {deviceId : BitVec 24} {reason ttl : BitVec 8}

theorem ledger_eq_refused (h : 2 ^ s.cfg.wNow ≤ ledgerUntil ttl s) :
    ledger deviceId reason ttl s = .refused .ledgerOverflow := by
  rw [ledger, if_neg h.not_gt]

/-- Settles O31: the deadline fits W_NOW bits and is merged, or LEDGER refuses. -/
theorem ledgerMergesDeadline : Obligations.LedgerMergesDeadline := by
  unfold Obligations.LedgerMergesDeadline
  intro deviceId reason ttl s
  rw [exec_ledger]
  exact ⟨fun hfit => ledger_eq_next.2 ⟨hfit, rfl⟩, ledger_eq_refused⟩

theorem isInhibited_at (s : State) (n : Nat) :
    isInhibited { s with now := n } = decide (n < s.led.inhibitUntil) := rfl

/-- A frame whose own deadline is not the earlier one sets the ledger to it. -/
theorem inhibitUntil_of_ledger (h : ledger deviceId reason ttl s = .next t)
    (hlater : s.led.inhibitUntil ≤ ledgerUntil ttl s) : t.led.inhibitUntil = ledgerUntil ttl s := by
  obtain ⟨-, rfl⟩ := ledger_eq_next.1 h
  exact max_eq_right hlater

/-- With the same ttl, `k` ticks later, the deadline is `k` ticks later. -/
theorem ledgerUntil_after_ledger (h : ledger deviceId reason ttl s = .next t) (k : Nat) :
    ledgerUntil ttl { t with now := t.now + k } = ledgerUntil ttl s + k := by
  obtain ⟨-, rfl⟩ := ledger_eq_next.1 h
  exact Nat.add_right_comm ..

/-- Settles O32: neither frame comes under a later deadline, so each sets its own, and the second's is `k` ticks after the
first's. -/
theorem ttlScenario : Obligations.TtlScenario := by
  unfold Obligations.TtlScenario
  intro s id1 id2 r1 r2 ttl k t u hfree _ hfirst hsecond j
  rw [exec_ledger] at hfirst hsecond
  have hnow : t.now = s.now := by rw [(ledger_eq_next.1 hfirst).2]
  have hfrom : ledgerUntil ttl s = s.now + ttl.toNat * ticksPerSec s.cfg := rfl
  have hdeadline₁ : t.led.inhibitUntil = ledgerUntil ttl s := inhibitUntil_of_ledger hfirst (by omega)
  have hshift := ledgerUntil_after_ledger hfirst k
  have hdeadline₂ : u.led.inhibitUntil = ledgerUntil ttl s + k := by
    rw [← hshift]
    exact inhibitUntil_of_ledger hsecond (by rw [hshift, hdeadline₁]; omega)
  rw [isInhibited_at, isInhibited_at, hdeadline₁, hdeadline₂, decide_eq_decide, decide_eq_decide]
  omega

end Sys2Proof.Machine
end

section
/-! PROOFS. The transmitter: ENCODE, TXSTEP and TXDONE, and a transmission from its first symbol to its end
(46_frame_transmitter.md R241, R244, R245, R247). -/

namespace Sys2Proof.Machine

variable {s : State}

/-! ### ENCODE (R241) -/

theorem exec_encodeFrame (d : DataWord) (s : State) :
    exec (.encodeFrame d) s = .next { s with ret := (encodeData s.cfg d).toNat } := rfl

theorem encodeData_sync (c : Params) (d : DataWord) : (encodeData c d).extractLsb' 80 16 = c.syncWord := by
  rw [encodeData_eq_append]
  exact BitVec.extractLsb'_append_eq_left

theorem encodeData_crc (c : Params) (d : DataWord) : (encodeData c d).extractLsb' 0 16 = dataCrc d :=
  BitVec.extractLsb'_append_eq_right

/-- Settles O50: each of the three parts is cut out of the frame where it was put in. -/
theorem encodeLaysOutFrame : Obligations.EncodeLaysOutFrame := by
  unfold Obligations.EncodeLaysOutFrame
  intro d s
  exact ⟨encodeData s.cfg d, exec_encodeFrame d s, encodeData_sync s.cfg d, encodeData_data s.cfg d,
    encodeData_crc s.cfg d⟩

/-! ### TXSTEP and TXDONE (R244, R245) -/

theorem exec_txstep (s : State) : exec .txstep s = .next (txStep s) := rfl

theorem exec_txdone (s : State) : exec .txdone s = .next (txDone s) := rfl

theorem txStep_of_inactive (h : s.tx.active = false) :
    txStep s = { s with tx := { s.tx with en := false, tone := 0 } } := if_pos h

theorem txStep_of_symbol (h : s.tx.active = true) (hidx : s.tx.idx.toNat ≤ 67) : txStep s = txOutput s := by
  rw [txStep, if_neg (by simp [h]), if_pos hidx]

theorem txStep_of_past_last (h : s.tx.active = true) (hidx : 67 < s.tx.idx.toNat) : txStep s = txDone s := by
  rw [txStep, if_neg (by simp [h]), if_neg (by omega)]

theorem txSym_preamble (f : FrameBits) {i : Nat} (h : i < 20) : (txSym f i).toNat = i % 4 := by
  rw [txSym, if_pos h, BitVec.toNat_ofNat]
  omega

theorem txSym_frame (f : FrameBits) {i : Nat} (h : 20 ≤ i) :
    txSym f i = toneOf (f.extractLsb' (94 - 2 * (i - 20)) 2) := by
  rw [txSym, if_neg (by omega), frameSymbol]

/-- Settles O51: the three cases of TXSTEP, then TXDONE, whose writes to the receiver are those of the cooldown. -/
theorem txstepEmitsOrFinishes : Obligations.TxstepEmitsOrFinishes := by
  unfold Obligations.TxstepEmitsOrFinishes
  intro s
  refine ⟨fun hoff => ?silent, fun hon hidx => ?symbol, fun hon hidx => ?past, fun hcd => ?done⟩
  case silent => rw [exec_txstep, txStep_of_inactive hoff]
  case symbol =>
    rw [exec_txstep, txStep_of_symbol hon hidx]
    exact ⟨txSym s.tx.frame s.tx.idx.toNat, rfl, txSym_preamble s.tx.frame, txSym_frame s.tx.frame⟩
  case past => rw [exec_txstep, exec_txdone, txStep_of_past_last hon (by omega)]
  case done =>
    have hrx : (txDone s).rx = (enterCooldown (txStop s)).rx := by rw [txDone_eq]
    refine ⟨txDone s, exec_txdone s, ?writes, hrx ▸ enterCooldown_rx (s := txStop s) hcd⟩
    rw [hrx, txDone_eq, enterCooldown_changes]
    rfl

/-! ### A whole transmission (R247) -/

/-- `s` with symbol `k` of its frame on the port, and the next one to come. -/
def afterSymbol (k : Nat) (s : State) : State :=
  { s with tx := { s.tx with en := true, tone := txSym s.tx.frame k, idx := BitVec.ofNat 7 (k + 1) } }

theorem idx_toNat_of_le {n : Nat} (h : n ≤ 68) : (BitVec.ofNat 7 n).toNat = n :=
  Nat.mod_eq_of_lt (by omega)

theorem txStep_eq_afterSymbol {k : Nat} (h : s.tx.active = true) (hidx : s.tx.idx = BitVec.ofNat 7 k) (hk : k < 68) :
    txStep s = afterSymbol k s := by
  have hnat : s.tx.idx.toNat = k := hidx ▸ idx_toNat_of_le hk.le
  have hnext : s.tx.idx + 1 = BitVec.ofNat 7 (k + 1) := by rw [hidx, BitVec.ofNat_add]; rfl
  rw [txStep_of_symbol h (by omega), txOutput, hnat, hnext, afterSymbol]

theorem runAll_txstep_symbols (h : s.tx.active = true) (hidx : s.tx.idx = 0) {k : Nat} (hk : k < 68) :
    runAll (List.replicate (k + 1) .txstep) s = .next (afterSymbol k s) := by
  induction k with
  | zero => rw [runAll_replicate_succ, List.replicate_zero, runAll_nil, andThen_next, exec_txstep,
      txStep_eq_afterSymbol h hidx hk]
  | succ k ih =>
    rw [runAll_replicate_succ, ih (by omega), andThen_next, exec_txstep,
      txStep_eq_afterSymbol (s := afterSymbol k s) h rfl hk]
    rfl

/-- The 69th step finds the transmission past its last symbol. -/
theorem runAll_txstep_all (h : s.tx.active = true) (hidx : s.tx.idx = 0) :
    runAll (List.replicate 69 .txstep) s = .next (txDone (afterSymbol 67 s)) := by
  rw [runAll_replicate_succ, runAll_txstep_symbols h hidx (by omega), andThen_next, exec_txstep,
    txStep_of_past_last (s := afterSymbol 67 s) h (idx_toNat_of_le le_rfl).ge]

/-- Settles O52: symbol after symbol by induction, then TXDONE. -/
theorem transmissionLasts68Steps : Obligations.TransmissionLasts68Steps := by
  unfold Obligations.TransmissionLasts68Steps
  intro s k hon hidx
  refine ⟨fun hk => ⟨afterSymbol k s, runAll_txstep_symbols hon hidx hk, rfl, rfl⟩,
    txDone (afterSymbol 67 s), runAll_txstep_all hon hidx, ?_⟩
  rw [txDone_eq]
  exact ⟨rfl, rfl, rfl, rfl⟩

end Sys2Proof.Machine
end

section
/-! PROOFS. No preemption: what a single event leaves of a transmission (46_frame_transmitter.md R248). A host command
does not reach the transmitter; a tick reaches it in TXSTEP alone, as SCHSTEP stands still in S_TX. -/

namespace Sys2Proof.Machine

variable {s t : State} {x : Transmitter}

/-- A transmission is going on: the transmitter is `x`, active, and the scheduler awaits its end in S_TX. -/
structure Transmitting (x : Transmitter) (s : State) : Prop where
  tx : s.tx = x
  active : x.active = true
  sch : s.sch.state = .tx

/-- `y` has the frame of `x`, and is active where `x` had not sent its last symbol. -/
structure GoesOn (x y : Transmitter) : Prop where
  frame : y.frame = x.frame
  active : x.idx.toNat ≤ 67 → y.active = true

namespace Transmitting

theorem enqueue (d : DataWord) (prio : BitVec 2) (h : Transmitting x s) : Transmitting x (enqueue d prio s) := by
  obtain heq | ⟨sch, heq, ⟨rfl, -⟩ | ⟨hne, -⟩⟩ := enqueue_cases d prio s
  · rw [heq]; exact h
  · rw [heq]; exact { h with }
  · exact absurd h.sch hne

theorem actStep (rj : BitVec 16) (h : Transmitting x s) : Transmitting x (actStep rj s) := by
  unfold Machine.actStep
  split
  · exact h
  · split
    · exact { h.enqueue s.act.tmpl s.act.prio with }
    · exact { h with }

/-- In S_TX the scheduler stands still (R260). -/
theorem schStep_eq (rs : BitVec 16) (h : Transmitting x s) : schStep rs s = s := by rw [schStep, h.sch]

theorem receive {v : Bool} {c : Tone} (h : Transmitting x s) (hr : rxStep v c s = .next t) : Transmitting x t := by
  rw [rxStep_changes hr]
  exact { h with }

/-- TXSTEP sends the next symbol, or ends the transmission after the last one; the frame stays (R244, R245). -/
theorem txStep (h : Transmitting x s) : GoesOn x (txStep s).tx := by
  obtain ⟨rfl, hon, -⟩ := h
  obtain hidx | hidx := le_or_gt s.tx.idx.toNat 67
  · rw [txStep_of_symbol hon hidx]
    exact ⟨rfl, fun _ => hon⟩
  · rw [txStep_of_past_last hon hidx, txDone_eq]
    exact ⟨rfl, fun hle => absurd hle hidx.not_ge⟩

theorem tickTail {rnd : Word} (h : Transmitting x s) (ht : tickTail false rnd s = .next t) : GoesOn x t.tx := by
  obtain ⟨u, hu, ht⟩ := andThen_eq_next.1 ht
  have hact : Transmitting x (Machine.actStep (entropyJ rnd) u) := (h.receive hu).actStep _
  obtain rfl := Host.Outcome.next.inj ht
  rw [if_neg Bool.false_ne_true, hact.schStep_eq]
  exact hact.txStep

/-- The window of a tick is blanked while TED transmits (R141 (b)). -/
theorem tick {winOk : Bool} {rnd : Word} (h : Transmitting x s) (ht : tick winOk rnd s = .next t) : GoesOn x t.tx := by
  obtain ⟨_, hclock, -⟩ := andThen_eq_next.1 ht
  have hblank : (windowOk winOk s && !s.tx.active) = false := by simp [h.tx, h.active]
  rw [tick_of_clock winOk rnd (advanceClock_eq_next.1 hclock).1, hblank] at ht
  refine tickTail ?_ ht
  split <;> exact { h with }

theorem symbolTick {c : Tone} {rnd : Word} (h : Transmitting x s) (ht : symbolTick c rnd s = .next t) :
    GoesOn x t.tx := by
  obtain ⟨u, hclock, ht⟩ := andThen_eq_next.1 ht
  obtain ⟨-, rfl⟩ := advanceClock_eq_next.1 hclock
  exact tickTail (s := { s with now := s.now + 1, sd := if s.tx.active then ⟨false, 0⟩ else ⟨true, c⟩ }) { h with } ht

/-- What leaves the transmitter alone lets it go on. -/
theorem goesOn_of_tx_eq (h : Transmitting x s) (ht : t.tx = s.tx) : GoesOn x t.tx := by
  rw [ht, h.tx]
  exact ⟨rfl, fun _ => h.active⟩

end Transmitting

/-- No host command but SRESET reaches the transmitter. -/
theorem exec_command_tx {i : Instr} (hi : isCommand i = true) (hr : i ≠ .sreset) (h : exec i s = .next t) :
    t.tx = s.tx := by
  cases i
  case submit prio d =>
    cases h
    have hkept : (enqueue d prio s).tx = s.tx := by rw [enqueue_changes]
    exact hkept
  case rdreg addr =>
    simp only [exec, execRdreg] at h
    split at h <;> cases h <;> rfl
  case popf =>
    simp only [exec, execPopf] at h
    split at h <;> cases h <;> rfl
  case sreset => exact absurd rfl hr
  case nop | activate | deactivate | qinh | qlast | clrf | illegal => cases h; rfl
  all_goals simp [isCommand] at hi

/-- An event that is no reset and stands for one tick at most. -/
theorem Transmitting.event {e : PortEvent} (h : Transmitting x s) (hframe : ∀ bits rnds, e ≠ .frame bits rnds)
    (hreset : ¬ resets s.cfg.syncWord s.pend e) (ht : perform (decodeEvent s.cfg.syncWord s.pend e) s = .next t) :
    GoesOn x t.tx := by
  cases e
  case rst => exact absurd (.inl rfl) hreset
  case frame bits rnds => exact absurd rfl (hframe bits rnds)
  case word w =>
    have hd : decodeEvent s.cfg.syncWord s.pend (.word w) = decodeWords (s.pend ++ [w]) := rfl
    obtain ⟨i, hi, he⟩ | ⟨p, -, he⟩ := decodeWords_cases (s.pend ++ [w]) <;> rw [hd, he] at ht
    · have hne : i ≠ .sreset := fun hsr => hreset (.inr ⟨[], by rw [hd, he, hsr]⟩)
      exact h.goesOn_of_tx_eq (exec_command_tx (s := { s with pend := [] }) hi hne ht)
    · cases ht
      exact h.goesOn_of_tx_eq rfl
  case tick winOk win rnd =>
    simp only [decodeEvent, decodeTick] at ht
    split at ht
    · exact tick (s := { s with win := win }) { h with } ht
    · exact tick (s := { s with win := [] }) { h with } ht
  case symbol dibit rnd => exact h.symbolTick ((exec_toneInstr (toneOf dibit) rnd s).symm.trans ht)

/-- Settles O57: in a transmission `sch.state` is S_TX by R60 (a), and then one event lets the transmission go on. -/
theorem transmissionIsNotPreempted : Obligations.TransmissionIsNotPreempted := by
  unfold Obligations.TransmissionIsNotPreempted
  intro s t e es hinv hi hframe hrst hsreset h hon
  rw [step_of_input_cons (configOk_of_step h) hi] at h
  have hreset : ¬ resets s.cfg.syncWord s.pend e := by
    rintro (hr | ⟨p, hp⟩)
    · exact hrst hr
    · exact hsreset p hp
  have hgo : GoesOn s.tx t.tx :=
    Transmitting.event (s := { s with input := es, resp := [], events := [] }) ⟨rfl, hon, hinv.1 hon⟩ hframe hreset h
  exact ⟨hgo.frame, hgo.active⟩

end Sys2Proof.Machine
end

section
/-! PROOFS. A transmission starts on an idle channel only: SCHSTEP reads the busy flag after MONITOR has written it, and
nothing writes the flag after SCHSTEP in the same tick (47_transmit_scheduler.md R269, 40_tick.md R140). -/

namespace Sys2Proof.Machine

variable {s t : State}

/-- A transmission, if one is going on, meets a channel classified idle. -/
def sendsOnIdleOnly (s : State) : Prop := s.tx.active = true → s.cam.busy = false

theorem sendsOnIdleOnly_of_silent (h : s.tx.active = false) : sendsOnIdleOnly s := fun hon => by simp [h] at hon

/-- The property reads two registers, and holds on wherever these stay. -/
theorem sendsOnIdleOnly.congr (h : sendsOnIdleOnly s) (htx : t.tx = s.tx) (hcam : t.cam = s.cam) :
    sendsOnIdleOnly t := by
  rw [sendsOnIdleOnly, htx, hcam]
  exact h

/-- SCHSTEP reaches the transmitter in SCH.HANDOFF alone, on an idle channel. -/
theorem schStep_tx_cases (rs : BitVec 16) (s : State) : (schStep rs s).tx = s.tx ∨ s.cam.busy = false := by
  unfold schStep
  split
  case h_1 => exact .inl rfl
  case h_2 => exact .inl (by rw [schWait_changes])
  case h_3 =>
    split
    case isTrue => exact .inl rfl
    case isFalse hidle => exact .inr (by simpa using hidle)
  case h_4 => exact .inl (by rw [schRetry_changes])
  case h_5 => exact .inl rfl

/-- TXSTEP goes on with a transmission or ends it; it starts none. -/
theorem active_of_txStep_active (h : (txStep s).tx.active = true) : s.tx.active = true := by
  obtain ⟨-, heq⟩ | ⟨hon, -⟩ | ⟨hon, -⟩ := txStep_cases s
  · rw [heq] at h
    exact h
  · exact hon
  · exact hon

theorem sendsOnIdleOnly.schStep (rs : BitVec 16) (h : sendsOnIdleOnly s) : sendsOnIdleOnly (schStep rs s) := by
  have hcam : (Machine.schStep rs s).cam = s.cam := (schStep_keptBut rs s).cam (by simp)
  obtain htx | hidle := schStep_tx_cases rs s
  · exact h.congr htx hcam
  · exact fun _ => hcam ▸ hidle

theorem sendsOnIdleOnly.txStep (h : sendsOnIdleOnly s) : sendsOnIdleOnly (txStep s) := fun hon => by
  rw [(txStep_keptBut s).cam (by simp)]
  exact h (active_of_txStep_active hon)

/-- From RXSTEP on the busy flag stays, and the transmitter is left to SCHSTEP and TXSTEP. -/
theorem sendsOnIdleOnly.tickTail {obs : Bool} {rnd : Word} (h : sendsOnIdleOnly s)
    (ht : tickTail obs rnd s = .next t) : sendsOnIdleOnly t := by
  obtain ⟨u, hu, ht⟩ := andThen_eq_next.1 ht
  obtain rfl := Host.Outcome.next.inj ht
  have hrx : sendsOnIdleOnly u := h.congr (by rw [rxStep_changes hu]) (by rw [rxStep_changes hu])
  have hnf : sendsOnIdleOnly (if obs then nfUpdate u else u) := by
    split
    · exact hrx.congr (by rw [nfUpdate_changes]) (by rw [nfUpdate_changes])
    · exact hrx
  have hact : sendsOnIdleOnly (actStep (entropyJ rnd) (if obs then nfUpdate u else u)) :=
    hnf.congr (by rw [actStep_changes]) (by rw [actStep_changes])
  exact (hact.schStep _).txStep

theorem tickFront_tx (obs : Bool) (s : State) : (tickFront obs s).tx = s.tx := by
  unfold tickFront
  split
  · rw [monitor_changes, decideSymbol_changes]
    rfl
  · rw [decideSymbol_changes]

/-- A tick that finds the transmitter silent may change the busy flag, but before SCHSTEP. -/
theorem sendsOnIdleOnly_of_tick {winOk : Bool} {rnd : Word} (h : s.tx.active = false)
    (ht : tick winOk rnd s = .next t) : sendsOnIdleOnly t := by
  obtain ⟨_, hclock, -⟩ := andThen_eq_next.1 ht
  rw [tick_of_clock winOk rnd (advanceClock_eq_next.1 hclock).1] at ht
  refine (sendsOnIdleOnly_of_silent ?_).tickTail ht
  rw [tickFront_tx]
  split <;> exact h

/-- At symbol level the monitor does not run, so a symbol tick keeps the property while TED transmits too. -/
theorem sendsOnIdleOnly.symbolTick {c : Tone} {rnd : Word} (h : sendsOnIdleOnly s)
    (ht : symbolTick c rnd s = .next t) : sendsOnIdleOnly t := by
  obtain ⟨u, hclock, ht⟩ := andThen_eq_next.1 ht
  obtain ⟨-, rfl⟩ := advanceClock_eq_next.1 hclock
  refine tickTail ?_ ht
  exact h.congr rfl rfl

theorem sendsOnIdleOnly.symbolTicks {tones : List Tone} {rnds : List Word} (h : sendsOnIdleOnly s)
    (ht : symbolTicks tones rnds s = .next t) : sendsOnIdleOnly t :=
  symbolTicks_induct (P := fun _ => sendsOnIdleOnly) h (fun _ _ _ _ _ hu hv => hu.symbolTick hv) ht

/-- A host command leaves the transmitter alone, or resets it. -/
theorem silent_of_command {i : Instr} (hi : isCommand i = true) (hs : s.tx.active = false) (h : exec i s = .next t) :
    t.tx.active = false := by
  by_cases hr : i = .sreset
  · subst hr
    cases h
    rfl
  · rw [exec_command_tx hi hr h, hs]

/-- One event, whatever it amounts to, found the transmitter silent. -/
theorem sendsOnIdleOnly_of_event {e : PortEvent} (hs : s.tx.active = false)
    (h : perform (decodeEvent s.cfg.syncWord s.pend e) s = .next t) : sendsOnIdleOnly t := by
  cases e
  case rst => cases h; exact sendsOnIdleOnly_of_silent rfl
  case word w =>
    have hd : decodeEvent s.cfg.syncWord s.pend (.word w) = decodeWords (s.pend ++ [w]) := rfl
    obtain ⟨i, hi, he⟩ | ⟨p, -, he⟩ := decodeWords_cases (s.pend ++ [w]) <;> rw [hd, he] at h
    · exact sendsOnIdleOnly_of_silent (silent_of_command (s := { s with pend := [] }) hi hs h)
    · cases h
      exact sendsOnIdleOnly_of_silent hs
  case tick winOk win rnd =>
    simp only [decodeEvent, decodeTick] at h
    split at h
    · exact sendsOnIdleOnly_of_tick (s := { s with win := win }) hs h
    · exact sendsOnIdleOnly_of_tick (s := { s with win := [] }) hs h
  case symbol dibit rnd =>
    exact (sendsOnIdleOnly_of_silent hs).symbolTick ((exec_toneInstr (toneOf dibit) rnd s).symm.trans h)
  case frame bits rnds =>
    simp only [decodeEvent] at h
    split at h <;> exact (sendsOnIdleOnly_of_silent hs).symbolTicks h

/-- Settles O56: a silent transmitter goes through one event, and if it sends afterwards the channel is idle. -/
theorem neverStartsWhileBusy : Obligations.NeverStartsWhileBusy := by
  unfold Obligations.NeverStartsWhileBusy
  intro s t h hs
  have hc := configOk_of_step h
  cases hi : s.input with
  | nil =>
    rw [step_of_input_nil hc hi] at h
    cases h
    exact sendsOnIdleOnly_of_silent hs
  | cons e es =>
    rw [step_of_input_cons hc hi] at h
    exact sendsOnIdleOnly_of_event (s := { s with input := es, resp := [], events := [] }) hs h

end Sys2Proof.Machine
end

section
/-! PROOFS. The arms of the scheduler and the activation, one equation per case (47_transmit_scheduler.md R258 to R266,
R272). -/

namespace Sys2Proof.Machine

variable {s t : State}

/-! ### Drawing (R258) -/

theorem draw_zero (r : BitVec 16) (hi : Nat) : draw r 0 hi = r.toNat % (hi + 1) := Nat.zero_add _

theorem draw_le {lo hi : Nat} (r : BitVec 16) (h : lo ≤ hi) : draw r lo hi ≤ hi := by
  have hmod : r.toNat % (hi - lo + 1) < hi - lo + 1 := Nat.mod_lt _ (Nat.succ_pos _)
  unfold draw
  omega

/-- A draw up to a bound of 16 bits fits `sch.cnt`. -/
theorem ofNat_draw_toNat {lo hi : Nat} (r : BitVec 16) (h : lo ≤ hi) (hfit : hi ≤ 65535) :
    (BitVec.ofNat 16 (draw r lo hi)).toNat = draw r lo hi := by
  have hle := draw_le r h
  exact Nat.mod_eq_of_lt (by omega)

theorem bTicks_get_le {c : Params} (h : configOk c = true) (prio : BitVec 2) : c.bTicks.get prio ≤ 65535 := by
  obtain ⟨-, -, h0, h1, h2, h3, -⟩ := scheduler_bounds h
  exact forall_get_of_each (p := (· ≤ 65535)) h0 h1 h2 h3 prio

theorem retryMin_le_retryMax {c : Params} (h : configOk c = true) : c.retryMin ≤ c.retryMax := by
  simp only [configOk, schedulerOk, Bool.and_eq_true, decide_eq_true_eq] at h
  omega

/-! ### SCH.WAIT (R261) -/

theorem exec_schWait (rs : BitVec 16) (s : State) : exec (.schWait rs) s = .next (schWait rs s) := rfl

theorem schWait_of_busy (rs : BitVec 16) (h : s.cam.busy = true) : schWait rs s = setSch s.sch.state 0 s := if_pos h

theorem schWait_of_last (rs : BitVec 16) (h : s.cam.busy = false) (hcnt : s.cfg.csTicks ≤ s.sch.cnt.toNat + 1) :
    schWait rs s = setSch .backoff (BitVec.ofNat 16 (draw rs 0 (backoffBound s))) s := by
  rw [schWait, if_neg (by simp [h]), if_pos hcnt]

theorem schWait_of_more (rs : BitVec 16) (h : s.cam.busy = false) (hcnt : s.sch.cnt.toNat + 1 < s.cfg.csTicks) :
    schWait rs s = setSch s.sch.state (s.sch.cnt + 1) s := by
  rw [schWait, if_neg (by simp [h]), if_neg (Nat.not_le.2 hcnt)]

/-- Settles O43: a busy tick, the CS_TICKS-th idle one with its draw, an earlier idle one. -/
theorem schWaitSensesThenDraws : Obligations.SchWaitSensesThenDraws := by
  unfold Obligations.SchWaitSensesThenDraws
  intro rs s hc hwait
  obtain ⟨-, hcs, -⟩ := scheduler_bounds hc
  refine ⟨schWait rs s, exec_schWait rs s, ?frame, fun hbusy => ?busy, fun hidle hlast => ?last,
    fun hidle hmore => ?more⟩
  case frame =>
    obtain ⟨st, cnt, heq, -⟩ := schWait_cases rs hc
    rw [heq]
    rfl
  case busy =>
    rw [schWait_of_busy rs hbusy]
    exact ⟨hwait, rfl⟩
  case last =>
    rw [schWait_of_last rs hidle hlast, ← draw_zero]
    exact ⟨rfl, ofNat_draw_toNat rs (Nat.zero_le _) (bTicks_get_le hc s.slot.prio)⟩
  case more =>
    rw [schWait_of_more rs hidle hmore]
    exact ⟨hwait, toNat_add_one (by omega)⟩

/-! ### SCH.ABORT (R263) -/

theorem exec_schAbort (rs : BitVec 16) (s : State) : exec (.schAbort rs) s = .next (schAbort rs s) := rfl

theorem starveNext_toNat (n : BitVec 16) : (starveNext n).toNat = min (n.toNat + 1) 0xFFFF :=
  Nat.mod_eq_of_lt (by omega)

/-- Settles O44: the retry delay is a draw between two bounds of 16 bits. -/
theorem schAbortDefers : Obligations.SchAbortDefers := by
  unfold Obligations.SchAbortDefers
  intro rs s hc
  obtain ⟨-, -, -, -, -, -, -, hmax, -⟩ := scheduler_bounds hc
  exact ⟨schAbort rs s, exec_schAbort rs s, rfl, rfl, starveNext_toNat s.sch.starve,
    ofNat_draw_toNat rs (retryMin_le_retryMax hc) hmax⟩

/-! ### SCH.HANDOFF and SCH.RETRY (R264, R265) -/

theorem exec_schHandoff (s : State) : exec .schHandoff s = .next (schHandoff s) := rfl

/-- Settles O45: the equation of SCH.HANDOFF, the frame written as its three parts. -/
theorem schHandoffStartsTransmission : Obligations.SchHandoffStartsTransmission := exec_schHandoff

theorem exec_schRetry (s : State) : exec .schRetry s = .next (schRetry s) := rfl

theorem schRetry_of_zero (h : s.sch.cnt.toNat = 0) : schRetry s = setSch .wait s.sch.cnt s :=
  if_pos (BitVec.eq_of_toNat_eq h)

theorem schRetry_of_pos (h : 0 < s.sch.cnt.toNat) : schRetry s = setSch s.sch.state (s.sch.cnt - 1) s :=
  if_neg fun h0 => by simp [h0] at h

/-- Settles O46: the delay has run out, or it has not. -/
theorem schRetryWaitsOut : Obligations.SchRetryWaitsOut := by
  unfold Obligations.SchRetryWaitsOut
  intro s _
  refine ⟨fun hzero => ?zero, fun hpos => ?pos⟩
  case zero => rw [exec_schRetry, schRetry_of_zero hzero]; rfl
  case pos => rw [exec_schRetry, schRetry_of_pos hpos]; rfl

/-! ### SCHSTEP (R260) -/

theorem exec_schstep (rs : BitVec 16) (s : State) : exec (.schstep rs) s = .next (schStep rs s) := rfl

theorem exec_schBackoff (s : State) : exec .schBackoff s = .next (schBackoff s) := rfl

theorem schBackoff_of_idle (h : s.cam.busy = false) (hcnt : 0 < s.sch.cnt.toNat) :
    schBackoff s = setSch s.sch.state (s.sch.cnt - 1) s :=
  if_pos ⟨h, fun h0 => by simp [h0] at hcnt⟩

theorem schStep_of_still (rs : BitVec 16) (h : s.sch.state = .none ∨ s.sch.state = .tx) : schStep rs s = s := by
  obtain h | h := h <;> rw [schStep, h]

theorem schStep_of_wait (rs : BitVec 16) (h : s.sch.state = .wait) : schStep rs s = schWait rs s := by
  rw [schStep, h]

theorem schStep_of_retry (rs : BitVec 16) (h : s.sch.state = .retry) : schStep rs s = schRetry s := by
  rw [schStep, h]

theorem schStep_of_backoff_busy (rs : BitVec 16) (h : s.sch.state = .backoff) (hbusy : s.cam.busy = true) :
    schStep rs s = schAbort rs s := by
  simp [schStep, h, hbusy]

theorem schStep_of_backoff_zero (rs : BitVec 16) (h : s.sch.state = .backoff) (hidle : s.cam.busy = false)
    (hcnt : s.sch.cnt.toNat = 0) : schStep rs s = schHandoff s := by
  have h0 : s.sch.cnt = 0 := BitVec.eq_of_toNat_eq hcnt
  simp [schStep, h, hidle, h0]

theorem schStep_of_backoff_pos (rs : BitVec 16) (h : s.sch.state = .backoff) (hidle : s.cam.busy = false)
    (hcnt : 0 < s.sch.cnt.toNat) : schStep rs s = schBackoff s := by
  have h0 : ¬ s.sch.cnt = 0#16 := fun h0 => by simp [h0] at hcnt
  simp [schStep, h, hidle, h0]

/-- Settles O42: SCHSTEP by the state it finds; in S_BACKOFF by the channel, then by the count. -/
theorem schstepRunsOneArm : Obligations.SchstepRunsOneArm := by
  unfold Obligations.SchstepRunsOneArm
  intro rs s
  rw [exec_schstep]
  refine ⟨⟨schStep rs s, rfl⟩, fun hstill => ?still, fun hwait => ?wait, fun hretry => ?retry, fun hback =>
    ⟨fun hbusy => ?abort, fun hidle hzero => ?handoff, fun hidle hpos => ?backoff⟩⟩
  case still => rw [schStep_of_still rs hstill]
  case wait => rw [schStep_of_wait rs hwait, exec_schWait]
  case retry => rw [schStep_of_retry rs hretry, exec_schRetry]
  case abort => rw [schStep_of_backoff_busy rs hback hbusy, exec_schAbort]
  case handoff => rw [schStep_of_backoff_zero rs hback hidle hzero, exec_schHandoff]
  case backoff => rw [schStep_of_backoff_pos rs hback hidle hpos, exec_schBackoff]

/-! ### ENQUEUE (R259) -/

theorem exec_enqueue (d : DataWord) (prio : BitVec 2) (s : State) :
    exec (.enqueue d prio) s = .next (enqueue d prio s) := rfl

theorem awaitsTurn_iff (st : SchState) : awaitsTurn st ↔ ¬ (st = .none ∨ st = .tx) := by
  cases st <;> simp [awaitsTurn]

/-- The scheduler with an attempt starting afresh in S_WAIT. -/
def attemptStarted (c : Scheduler) : Scheduler := { c with state := .wait, cnt := 0 }

theorem enqueue_of_empty (d : DataWord) (prio : BitVec 2) (h : s.slot.valid = false) :
    enqueue d prio s = { s with
      slot := ⟨true, prio, d⟩, sch := if s.sch.state = .none then attemptStarted s.sch else s.sch } := by
  rw [enqueue, if_pos h]
  split_ifs <;> rfl

theorem enqueue_of_superseded {d : DataWord} {prio : BitVec 2} (h : s.slot.valid = true)
    (hprio : s.slot.prio.toNat ≤ prio.toNat) :
    enqueue d prio s = { s with
      slot := ⟨true, prio, d⟩
      sch := if s.sch.state = .none ∨ s.sch.state = .tx then s.sch else attemptStarted s.sch } := by
  have hturn := awaitsTurn_iff s.sch.state
  rw [enqueue, if_neg (by simp [h]), if_pos hprio]
  by_cases hstill : s.sch.state = .none ∨ s.sch.state = .tx
  · rw [if_pos hstill, if_neg fun hw => hturn.1 hw hstill]
  · rw [if_neg hstill, if_pos (hturn.2 hstill)]
    rfl

theorem enqueue_of_lower {d : DataWord} {prio : BitVec 2} (h : s.slot.valid = true)
    (hprio : prio.toNat < s.slot.prio.toNat) : enqueue d prio s = s := by
  rw [enqueue, if_neg (by simp [h]), if_neg (Nat.not_le.2 hprio)]

theorem exec_submit (prio : BitVec 2) (d : DataWord) (s : State) :
    exec (.submit prio d) s = exec (.enqueue d prio) s := rfl

/-- Settles O13: the three words are read as SUBMIT, and ENQUEUE by the slot, then by the two priorities. -/
theorem enqueueSupersedes : Obligations.EnqueueSupersedes := by
  unfold Obligations.EnqueueSupersedes
  intro prio d
  obtain ⟨-, -, hwords⟩ :=
    decodeWords_of_long (d.extractLsb' 32 32) (d.extractLsb' 0 32) (takesPayload_submit prio)
  refine ⟨by rw [hwords, decodeLong_submit, append_of_payload], fun s => ⟨exec_submit prio d s, fun hempty => ?empty,
    fun hfull hprio => ?superseded, fun hfull hprio => ?lower⟩⟩
  case empty => rw [exec_enqueue, enqueue_of_empty d prio hempty]; rfl
  case superseded => rw [exec_enqueue, enqueue_of_superseded hfull hprio]; rfl
  case lower => rw [exec_enqueue, enqueue_of_lower hfull hprio]

/-! ### ACTSTEP (R272) -/

theorem exec_actstep (rj : BitVec 16) (s : State) : exec (.actstep rj) s = .next (actStep rj s) := rfl

theorem actStep_of_inactive (rj : BitVec 16) (h : s.act.active = false) : actStep rj s = s := if_pos h

theorem actStep_of_pending (rj : BitVec 16) (h : s.act.active = true) (htimer : 0 < s.act.timer.toNat) :
    actStep rj s = { s with act := { s.act with timer := s.act.timer - 1 } } := by
  rw [actStep, if_neg (by simp [h]), if_neg fun h0 => by simp [h0] at htimer]

theorem actStep_of_due (rj : BitVec 16) (h : s.act.active = true) (htimer : s.act.timer.toNat = 0) :
    actStep rj s =
      raise .gen { enqueue s.act.tmpl s.act.prio s with act := actGenerated s.cfg rj s.act } := by
  rw [actStep, if_neg (by simp [h]), if_pos (BitVec.eq_of_toNat_eq htimer)]

theorem bumpSeq_rest (d : DataWord) : (bumpSeq d).extractLsb' 8 56 = d.extractLsb' 8 56 :=
  BitVec.extractLsb'_append_eq_left

theorem bumpSeq_seq (d : DataWord) :
    ((bumpSeq d).extractLsb' 0 8).toNat = ((d.extractLsb' 0 8).toNat + 1) % 256 := by
  have hseq : (bumpSeq d).extractLsb' 0 8 = d.extractLsb' 0 8 + 1#8 := BitVec.extractLsb'_append_eq_right
  rw [hseq, BitVec.toNat_add]
  rfl

theorem genNext_toNat (g : BitVec 2) : (genNext g).toNat = min (g.toNat + 1) 3 := by revert g; decide

/-- The gap by the number of requests generated so far. -/
theorem nextGap_eq (c : Params) (g : BitVec 2) (rj : BitVec 16) : nextGap c g rj =
    if g.toNat = 1 then c.fsOffset1 - c.fsOffset0
    else if g.toNat = 2 then c.fsOffset2 - c.fsOffset1
    else c.refreshTicks + rj.toNat % (c.refreshJitter + 1) := by
  have h1 : g = 1 ↔ g.toNat = 1 := BitVec.toNat_inj.symm
  have h2 : g = 2 ↔ g.toNat = 2 := BitVec.toNat_inj.symm
  rw [nextGap, draw_zero, if_congr h1 rfl (if_congr h2 rfl rfl)]

theorem timerOf_toNat {gap : Nat} (h : gap - 1 < 2 ^ 16) : (timerOf gap).toNat = gap - 1 := by
  rw [timerOf, if_pos h, BitVec.toNat_ofNat, Nat.mod_eq_of_lt h]

/-- Settles O49: no activation, a timer still running, a due request. -/
theorem actstepGeneratesRequests : Obligations.ActstepGeneratesRequests := by
  unfold Obligations.ActstepGeneratesRequests
  intro rj s
  rw [exec_actstep]
  refine ⟨fun hoff => ?inactive, fun hon hpos => ?pending, fun hon hzero => ?due⟩
  case inactive => rw [actStep_of_inactive rj hoff]
  case pending => rw [actStep_of_pending rj hon hpos]
  case due =>
    have hnow : (enqueue s.act.tmpl s.act.prio s).now = s.now := by rw [enqueue_changes]
    refine ⟨enqueue s.act.tmpl s.act.prio s, actGenerated s.cfg rj s.act, nextGap s.cfg (genNext s.act.gen) rj,
      exec_enqueue _ _ s, ?_, hon, rfl, bumpSeq_rest s.act.tmpl, bumpSeq_seq s.act.tmpl, genNext_toNat s.act.gen,
      nextGap_eq s.cfg _ rj, timerOf_toNat⟩
    rw [actStep_of_due rj hon hzero, ← hnow]
    rfl

end Sys2Proof.Machine
end

section
/-! PROOFS. An attempt counted step by step: the wait up, the backoff down, the hand-off after it
(47_transmit_scheduler.md R261, R262, R267). -/

namespace Sys2Proof.Machine

variable {s : State}

/-- `s` with the scheduler in the state `st` at the count `n`. -/
def counting (st : SchState) (n : Nat) (s : State) : State := setSch st (BitVec.ofNat 16 n) s

theorem counting_self (s : State) : counting s.sch.state s.sch.cnt.toNat s = s := by
  rw [counting, BitVec.ofNat_toNat, BitVec.setWidth_eq]
  rfl

theorem counting_cnt_toNat {st : SchState} {n : Nat} (h : n ≤ 65535) : (counting st n s).sch.cnt.toNat = n :=
  (BitVec.toNat_ofNat n 16).trans (Nat.mod_eq_of_lt (by omega))

/-! ### Single steps on an idle channel -/

theorem schStep_counting_wait {n : Nat} (r : BitVec 16) (hidle : s.cam.busy = false) (hcs : s.cfg.csTicks ≤ 65535)
    (hn : n + 1 < s.cfg.csTicks) : schStep r (counting .wait n s) = counting .wait (n + 1) s := by
  have hcnt : (counting .wait n s).sch.cnt.toNat = n := counting_cnt_toNat (by omega)
  rw [schStep_of_wait (s := counting .wait n s) r rfl,
    schWait_of_more (s := counting .wait n s) r hidle (hcnt.symm ▸ hn)]
  simp only [counting, BitVec.ofNat_add]
  rfl

theorem schStep_counting_wait_last {n : Nat} (r : BitVec 16) (hidle : s.cam.busy = false)
    (hcs : s.cfg.csTicks ≤ 65535) (hn : n + 1 = s.cfg.csTicks) :
    schStep r (counting .wait n s) = counting .backoff (draw r 0 (backoffBound s)) s := by
  have hcnt : (counting .wait n s).sch.cnt.toNat = n := counting_cnt_toNat (by omega)
  rw [schStep_of_wait (s := counting .wait n s) r rfl,
    schWait_of_last (s := counting .wait n s) r hidle (hcnt.symm ▸ hn.ge)]
  rfl

theorem schStep_counting_backoff {n : Nat} (r : BitVec 16) (hidle : s.cam.busy = false) (hn : n + 1 ≤ 65535) :
    schStep r (counting .backoff (n + 1) s) = counting .backoff n s := by
  have hcnt : (counting .backoff (n + 1) s).sch.cnt.toNat = n + 1 := counting_cnt_toNat hn
  have hpos : 0 < (counting .backoff (n + 1) s).sch.cnt.toNat := hcnt.symm ▸ Nat.succ_pos n
  have hdown : BitVec.ofNat 16 (n + 1) - 1 = BitVec.ofNat 16 n := by
    rw [BitVec.ofNat_add]
    exact BitVec.add_sub_cancel _ _
  rw [schStep_of_backoff_pos (s := counting .backoff (n + 1) s) r rfl hidle hpos,
    schBackoff_of_idle (s := counting .backoff (n + 1) s) hidle hpos, counting, setSch_sch_cnt, hdown]
  rfl

theorem schStep_counting_zero (r : BitVec 16) (hidle : s.cam.busy = false) :
    schStep r (counting .backoff 0 s) = schHandoff (counting .backoff 0 s) :=
  schStep_of_backoff_zero (s := counting .backoff 0 s) r rfl hidle rfl

/-! ### The backoff (R262) -/

theorem runAll_backoff (rs : List (BitVec 16)) {n : Nat} (hidle : s.cam.busy = false) (hn : n + rs.length ≤ 65535) :
    runAll (rs.map .schstep) (counting .backoff (n + rs.length) s) = .next (counting .backoff n s) := by
  induction rs with
  | nil => rfl
  | cons r rs ih =>
    rw [List.length_cons, ← Nat.add_assoc] at hn ⊢
    rw [List.map_cons, runAll_cons, exec_schstep, andThen_next, schStep_counting_backoff r hidle hn]
    exact ih (by omega)

/-- Settles O47: one step by the equation of SCH.BACKOFF, a run of them by induction on its draws. -/
theorem backoffRunsDown : Obligations.BackoffRunsDown := by
  unfold Obligations.BackoffRunsDown
  refine ⟨fun s hidle hpos => ?single, fun s rs hstate hidle hlen => ?run⟩
  case single => rw [exec_schBackoff, schBackoff_of_idle hidle hpos]; rfl
  case run =>
    have hfit := s.sch.cnt.isLt
    obtain ⟨n, hn⟩ : ∃ n, s.sch.cnt.toNat = n + rs.length := ⟨s.sch.cnt.toNat - rs.length, by omega⟩
    have hstart : counting .backoff (n + rs.length) s = s := by rw [← hstate, ← hn, counting_self]
    have hcnt : (counting .backoff n s).sch.cnt.toNat = n := counting_cnt_toNat (by omega)
    have hrun := runAll_backoff rs hidle (n := n) (by omega)
    rw [hstart] at hrun
    refine ⟨counting .backoff n s, hrun, ?frame, by omega, fun hall r => ?handoff⟩
    case frame => rw [← hstate]; rfl
    case handoff =>
      obtain rfl : n = 0 := by omega
      rw [exec_schstep, schStep_counting_zero r hidle, exec_schHandoff]

/-! ### The whole attempt (R267) -/

section Attempt

variable (r : BitVec 16) (hidle : s.cam.busy = false) (hcs : s.cfg.csTicks ≤ 65535)
include hidle hcs

theorem runAll_wait {n : Nat} (hn : n < s.cfg.csTicks) :
    runAll (List.replicate n (.schstep r)) (counting .wait 0 s) = .next (counting .wait n s) := by
  induction n with
  | zero => rfl
  | succ n ih =>
    rw [runAll_replicate_succ, ih (by omega), andThen_next, exec_schstep, schStep_counting_wait r hidle hcs hn]

theorem runAll_wait_all (hpos : 1 ≤ s.cfg.csTicks) :
    runAll (List.replicate s.cfg.csTicks (.schstep r)) (counting .wait 0 s) =
      .next (counting .backoff (draw r 0 (backoffBound s)) s) := by
  obtain ⟨n, hn⟩ : ∃ n, s.cfg.csTicks = n + 1 := ⟨s.cfg.csTicks - 1, by omega⟩
  rw [hn, runAll_replicate_succ, runAll_wait r hidle hcs (by omega), andThen_next, exec_schstep,
    schStep_counting_wait_last r hidle hcs hn.symm]

variable (hpos : 1 ≤ s.cfg.csTicks) (hbound : backoffBound s ≤ 65535)
include hpos hbound

theorem runAll_wait_backoff {m k : Nat} (hk : m + k = draw r 0 (backoffBound s)) :
    runAll (List.replicate (s.cfg.csTicks + k) (.schstep r)) (counting .wait 0 s) = .next (counting .backoff m s) := by
  have hfit : draw r 0 (backoffBound s) ≤ backoffBound s := draw_le r (Nat.zero_le _)
  have hback := runAll_backoff (List.replicate k r) hidle (n := m) (by rw [List.length_replicate]; omega)
  rw [List.length_replicate, hk, List.map_replicate] at hback
  rw [List.replicate_add, runAll_append, runAll_wait_all r hidle hcs hpos, andThen_next, hback]

/-- Before the hand-off an attempt writes the state and the count of the scheduler alone. -/
theorem runAll_attempt_early {n : Nat} (hn : n ≤ s.cfg.csTicks + draw r 0 (backoffBound s)) :
    ∃ st m, runAll (List.replicate n (.schstep r)) (counting .wait 0 s) = .next (counting st m s) := by
  obtain hwait | hback := lt_or_ge n s.cfg.csTicks
  · exact ⟨_, _, runAll_wait r hidle hcs hwait⟩
  · obtain ⟨k, rfl⟩ := Nat.exists_eq_add_of_le hback
    obtain ⟨m, hm⟩ : ∃ m, m + k = draw r 0 (backoffBound s) := ⟨draw r 0 (backoffBound s) - k, by omega⟩
    exact ⟨_, _, runAll_wait_backoff r hidle hcs hpos hbound hm⟩

theorem runAll_attempt :
    runAll (List.replicate (s.cfg.csTicks + draw r 0 (backoffBound s) + 1) (.schstep r)) (counting .wait 0 s) =
      .next (schHandoff (counting .backoff 0 s)) := by
  rw [runAll_replicate_succ, runAll_wait_backoff r hidle hcs hpos hbound (Nat.zero_add _), andThen_next, exec_schstep,
    schStep_counting_zero r hidle]

end Attempt

/-- ENQUEUE on an empty scheduler starts the count of S_WAIT (R259). -/
theorem enqueue_eq_counting (d : DataWord) (prio : BitVec 2) (hslot : s.slot.valid = false)
    (hstate : s.sch.state = .none) :
    enqueue d prio s = counting .wait 0 { s with slot := ⟨true, prio, d⟩ } := by
  rw [enqueue_of_empty d prio hslot, if_pos hstate]
  rfl

/-- Settles O48: the steps before the last leave the transmitter silent, the last one is SCH.HANDOFF. -/
theorem undisturbedAttemptHandsOff : Obligations.UndisturbedAttemptHandsOff := by
  unfold Obligations.UndisturbedAttemptHandsOff
  intro s d prio r n hc hstate hslot hsilent hidle hn
  obtain ⟨hpos, hcs, -⟩ := scheduler_bounds hc
  have hbound := bTicks_get_le hc prio
  rw [runAll_cons, exec_enqueue, andThen_next, enqueue_eq_counting d prio hslot hstate]
  obtain hlast | hearly := Nat.eq_or_lt_of_le hn
  · subst hlast
    exact ⟨_, runAll_attempt (s := { s with slot := ⟨true, prio, d⟩ }) r hidle hcs hpos hbound,
      ⟨fun _ => rfl, fun _ => rfl⟩, fun _ => ⟨rfl, rfl, rfl⟩⟩
  · obtain ⟨st, m, hrun⟩ := runAll_attempt_early (s := { s with slot := ⟨true, prio, d⟩ }) r hidle hcs hpos hbound
      (Nat.le_of_lt_succ hearly)
    have hoff : ¬ (counting st m { s with slot := ⟨true, prio, d⟩ }).tx.active = true := by
      rw [counting, setSch_tx, hsilent]
      exact Bool.false_ne_true
    exact ⟨_, hrun, ⟨fun hon => absurd hon hoff, fun hall => absurd hall hearly.ne⟩, fun hon => absurd hon hoff⟩

end Sys2Proof.Machine
end

section
/-! PROOFS. The host commands (48_host_commands.md R292 to R303), and the step that runs a decoded instruction
(R290). -/

namespace Sys2Proof.Machine

variable {s : State}

/-! ### The step of an instruction (R290) -/

theorem perform_instr (i : Instr) (p : List Word) : perform (.instr i p) s = exec i { s with pend := p } := rfl

/-- Settles O6: the step by its input, then by what the event amounts to. -/
theorem stepRunsDecodedInstruction : Obligations.StepRunsDecodedInstruction := by
  unfold Obligations.StepRunsDecodedInstruction
  intro s e es i p hc hi hd
  rw [step_of_input_cons hc hi, hd, perform_instr]

/-! ### Commands of one word -/

/-- The word of a command that has no operand decodes to it. -/
theorem decodeWords_bare {i : Instr} {w : Word} (h : (i, w) ∈ bareCommands) (hshort : takesPayload w = false) :
    decodeWords [w] = .instr i [] := by
  obtain ⟨-, hdec, -, -⟩ := bareCommands_agree (i, w) h
  rw [decodeWords_of_short [] hshort, hdec]

theorem exec_nop (s : State) : exec .nop s = .next s := rfl

/-- Settles O9: the word of NOP is a bare command, and its meaning is the state it finds. -/
theorem nopChangesNothing : Obligations.NopChangesNothing :=
  ⟨decodeWords_bare (by decide) rfl, exec_nop⟩

theorem exec_sreset (s : State) : exec .sreset s = .next (resetMachine s) := rfl

/-- Settles O8: the fields of `resetMachine`, each at its reset value. -/
theorem sresetResetsEveryRegister : Obligations.SresetResetsEveryRegister := by
  unfold Obligations.SresetResetsEveryRegister
  refine ⟨decodeWords_bare (by decide) rfl, fun s => ⟨resetMachine s, exec_sreset s, rfl, rfl, rfl, rfl, rfl, rfl, rfl,
    rfl, rfl, fun x hx => ?hist, rfl, rfl, rfl, rfl, rfl, rfl, rfl, rfl, rfl, rfl, rfl, rfl, rfl, rfl, rfl, rfl, rfl⟩⟩
  case hist =>
    rw [resetMachine_rx, resetState, Vector.toList_replicate] at hx
    exact List.eq_of_mem_replicate hx

/-! ### RDREG (R293) -/

theorem execRdreg_of_none {a : BitVec 8} (h : regValue s a = none) :
    exec (.rdreg a) s = .next (commandError (respond [0] s)) := by
  simp only [exec, execRdreg, h]

theorem configReg_eq_none (c : Params) {n : Nat} (h : n < 0x40 ∨ 0x5F < n) : configReg c n = none := by
  unfold configReg
  split
  any_goals omega
  rfl

/-- Neither map lists an address between them or past them. -/
theorem regValue_eq_none (s : State) {a : BitVec 8} (h : 0x18 ≤ a.toNat ∧ a.toNat ≤ 0x3F ∨ 0x60 ≤ a.toNat) :
    regValue s a = none := by
  rw [regValue, statusReg_eq_none s (by omega), configReg_eq_none s.cfg (by omega)]
  rfl

/-- Settles O10: an address of the status map, of the configuration map, of neither. -/
theorem rdregAnswersOneWord : Obligations.RdregAnswersOneWord := by
  unfold Obligations.RdregAnswersOneWord
  refine fun s addr => ⟨?listed, fun hun => ?unlisted⟩
  case listed =>
    rintro (hstatus | ⟨hlo, hhi⟩)
    · exact ⟨_, rdreg_status s addr hstatus⟩
    · exact ⟨_, rdreg_config s addr hlo hhi⟩
  case unlisted =>
    rw [execRdreg_of_none (regValue_eq_none s hun)]
    rfl

/-! ### ACTIVATE and DEACTIVATE (R295, R296) -/

theorem exec_deactivate (s : State) : exec .deactivate s = .next { s with act := { s.act with active := false } } := rfl

theorem exec_activate (prio : BitVec 2) (d : DataWord) (s : State) : exec (.activate prio d) s =
    .next { s with act := ⟨true, prio, d, 0, BitVec.ofNat 16 s.cfg.fsOffset0⟩ } := rfl

/-- Settles O14: R11 bounds the first offset of the fast start by 16 bits. -/
theorem activationCommands : Obligations.ActivationCommands := by
  unfold Obligations.ActivationCommands
  refine ⟨decodeWords_bare (by decide) rfl, exec_deactivate, fun prio d => ⟨?words, fun s =>
    ⟨_, exec_activate prio d s, fun hc => ?timer⟩⟩⟩
  case words =>
    obtain ⟨-, -, hwords⟩ :=
      decodeWords_of_long (d.extractLsb' 32 32) (d.extractLsb' 0 32) (takesPayload_activate prio)
    rw [hwords, decodeLong_activate, append_of_payload]
  case timer =>
    obtain ⟨-, -, -, -, -, -, -, -, -, -, hoff, -⟩ := scheduler_bounds hc
    exact Nat.mod_eq_of_lt (by omega)

/-! ### POPF (R297) -/

theorem exec_popf_of_valid (h : s.out.valid = true) :
    exec .popf s = .next (respond (popWords s.out) { s with out := { s.out with valid := false } }) := if_pos h

theorem exec_popf_of_empty (h : s.out.valid = false) : exec .popf s = .next (respond [0, 0] s) :=
  if_neg (by simp [h])

/-- Settles O15: a record is there, or none is. -/
theorem popfDeliversOnce : Obligations.PopfDeliversOnce := by
  unfold Obligations.PopfDeliversOnce
  refine ⟨decodeWords_bare (by decide) rfl, fun s => ⟨fun hvalid => ?record, fun hempty => ?empty⟩⟩
  case record => rw [exec_popf_of_valid hvalid]; rfl
  case empty => rw [exec_popf_of_empty hempty]; rfl

/-! ### QINH and QLAST (R298, R299) -/

theorem exec_qinh (s : State) : exec .qinh s = .next (respond [0#31 ++ bit (isInhibited s)] s) := rfl

theorem exec_qlast (s : State) : exec .qlast s =
    .next (respond [lastIdWord s, s.led.lastReason.zeroExtend 32, registerWord s.led.lastSeen] s) := rfl

theorem zeros_append_bit (b : Bool) : 0#31 ++ bit b = if b then 1#32 else 0#32 := by revert b; decide

theorem lastIdWord_zeros (s : State) : (lastIdWord s).extractLsb' 24 7 = 0 := by
  simp (disch := omega) only [lastIdWord, BitVec.extractLsb'_append_eq_of_le]
  exact BitVec.extractLsb'_append_eq_right

/-- Settles O16: the answers field by field. -/
theorem ledgerQueries : Obligations.LedgerQueries := by
  unfold Obligations.LedgerQueries
  refine ⟨decodeWords_bare (by decide) rfl, decodeWords_bare (by decide) rfl, fun s =>
    ⟨?qinh, _, _, _, exec_qlast s, ?qlast⟩⟩
  case qinh =>
    rw [exec_qinh, zeros_append_bit, isInhibited, if_congr decide_eq_true_iff rfl rfl]
    rfl
  case qlast =>
    obtain ⟨hvalid, hid⟩ := lastIdWord_fields s
    exact ⟨hvalid, hid, lastIdWord_zeros s, BitVec.toNat_setWidth_of_le (by norm_num), registerWord_toNat⟩

/-! ### CLRF and ILLEGAL (R300, R301) -/

theorem exec_clrf (s : State) : exec .clrf s = .next { s with st := ⟨false, false⟩ } := rfl

theorem exec_illegal (w : Word) (s : State) : exec (.illegal w) s = .next (commandError s) := rfl

/-- Settles O17: a reserved first word takes no payload, so it is ILLEGAL at once. -/
theorem stickyFlagCommands : Obligations.StickyFlagCommands := by
  unfold Obligations.StickyFlagCommands
  refine ⟨decodeWords_bare (by decide) rfl, exec_clrf, fun w hw => ⟨fun rest sync => ?decode, exec_illegal w⟩⟩
  obtain ⟨-, -, hshort⟩ := (reservedFirstWord_iff w).1 hw
  rw [decodeStream_of_short sync rest hshort, (decodeShort_eq_illegal_iff hshort).2 hw]

/-! ### What commands cannot write (R303) -/

/-- From `s` to `t` nothing changed but what a host command may write: the slot, which is not emptied, the scheduler but
for its starvation counter, the activation, `out.valid`, which is not raised, and the outputs. -/
def commandFrame (s t : State) : Prop :=
  t = { s with
    slot := t.slot
    sch := { t.sch with starve := s.sch.starve }
    act := t.act
    out := { s.out with valid := t.out.valid }
    st := t.st
    resp := t.resp
    events := t.events } ∧
  (t.slot.valid = false → s.slot.valid = false) ∧ (t.out.valid = true → s.out.valid = true)

/-- A command that leaves the slot, the scheduler and the record alone. -/
theorem commandFrame_of_unscheduled (s : State) (act : Activation) (st : StickyFlags) (resp : List Word)
    (events : List (Nat × Event)) : commandFrame s { s with act := act, st := st, resp := resp, events := events } :=
  ⟨rfl, id, id⟩

theorem enqueue_commandFrame (d : DataWord) (prio : BitVec 2) (s : State) : commandFrame s (enqueue d prio s) := by
  obtain heq | ⟨sch, heq, ⟨rfl, -⟩ | ⟨-, rfl⟩⟩ := enqueue_cases d prio s <;> rw [heq]
  · exact ⟨rfl, id, id⟩
  · exact ⟨rfl, by simp, id⟩
  · exact ⟨rfl, by simp, id⟩

theorem rdreg_commandFrame (addr : BitVec 8) (s : State) :
    ∃ t, exec (.rdreg addr) s = .next t ∧ commandFrame s t := by
  cases h : regValue s addr with
  | some v => exact ⟨_, execRdreg_of_some h, commandFrame_of_unscheduled s _ _ _ _⟩
  | none => exact ⟨_, execRdreg_of_none h, commandFrame_of_unscheduled s _ _ _ _⟩

theorem popf_commandFrame (s : State) : ∃ t, exec .popf s = .next t ∧ commandFrame s t := by
  cases h : s.out.valid with
  | true => exact ⟨_, exec_popf_of_valid h, rfl, id, fun hv => by simp at hv⟩
  | false => exact ⟨_, exec_popf_of_empty h, commandFrame_of_unscheduled s _ _ _ _⟩

/-- Settles O18: command by command; ENQUEUE alone reaches the slot and the scheduler, POPF alone the record. -/
theorem commandsCannotInject : Obligations.CommandsCannotInject := by
  unfold Obligations.CommandsCannotInject
  intro i s hi hr
  cases i
  case nop | deactivate | qinh | qlast | clrf | activate | illegal =>
    exact ⟨_, rfl, commandFrame_of_unscheduled s _ _ _ _⟩
  case rdreg addr => exact rdreg_commandFrame addr s
  case submit prio d => exact ⟨_, rfl, enqueue_commandFrame d prio s⟩
  case popf => exact popf_commandFrame s
  case sreset => exact absurd rfl hr
  all_goals simp [isCommand] at hi

end Sys2Proof.Machine
end

section
/-! PROOFS. The two ends of the time line: the state after reset and the tick past the last value of the clock
(70_reset_and_hazards.md R351, R369). -/

namespace Sys2Proof.Machine

variable {s : State}

/-! ### The clock at its last value (R369) -/

theorem advanceClock_eq_refused (h : s.now + 1 = 2 ^ s.cfg.wNow) : advanceClock s = .refused .clockOverflow :=
  if_neg (by omega)

theorem tick_eq_refused (winOk : Bool) (rnd : Word) (h : s.now + 1 = 2 ^ s.cfg.wNow) :
    tick winOk rnd s = .refused .clockOverflow := by
  rw [tick, advanceClock_eq_refused h, andThen_refused]

theorem symbolTick_eq_refused (c : Tone) (rnd : Word) (h : s.now + 1 = 2 ^ s.cfg.wNow) :
    symbolTick c rnd s = .refused .clockOverflow := by
  rw [symbolTick, advanceClock_eq_refused h, andThen_refused]

/-- Settles O41: every tick form advances the clock first. -/
theorem clockWrapIsRefused : Obligations.ClockWrapIsRefused := by
  unfold Obligations.ClockWrapIsRefused
  intro win rnd k s h
  rw [exec_tickWin, exec_tickMiss, exec_toneInstr]
  exact ⟨tick_eq_refused (s := { s with win := win }) true rnd h,
    tick_eq_refused (s := { s with win := [] }) false rnd h, symbolTick_eq_refused k rnd h⟩

/-! ### The state after reset (R351) -/

theorem configOk_ref : configOk Config.ref = true := by decide

/-- A reset of the state after reset gives it again but for the trace, which the invariants do not read. -/
theorem reset_inv : Inv State.reset := by
  have hinv : InvariantUnder Config.ref (resetMachine State.reset) := .resetMachine configOk_ref rfl
  have hreset : InvariantUnder Config.ref State.reset := { hinv with }
  exact (invariantUnder_iff.1 hreset).2

theorem reset_ranges : RangesUnder Config.ref State.reset := by
  have hrange : RangesUnder Config.ref (resetMachine State.reset) := .resetMachine configOk_ref rfl
  exact { hrange with }

/-- Settles O55: the invariants a reset gives, and the tone port silent beside a silent transmitter. -/
theorem resetHasInvariants : Obligations.ResetHasInvariants :=
  ⟨configOk_ref, reset_inv, reset_ranges.analyzer, reset_ranges.times, reset_ranges.noiseFloor, reset_ranges.schCnt,
    reset_ranges.frame, reset_ranges.held, reset_ranges.ledger, rfl, fun _ => rfl⟩

end Sys2Proof.Machine
end
